-- ==== Sys2Proof/Word.lean ====
section
/-! DEFINITION. The two word types of the CORE (spec/00_scope.md rule R3: general registers of 8 bits, addresses, `PC`
and `SP` of 16 bits). -/

namespace Sys2Proof

/-- A byte: a general register, a memory byte (rules R3, R10, R50). -/
abbrev Byte := BitVec 8

/-- A 16-bit value: an address, `PC`, `SP`, a register pair (rules R3, R11, R13, R14). -/
abbrev Word := BitVec 16

end Sys2Proof
end

