-- ==== Sys2Proof/Config.lean ====
section
/-! DEFINITION. What is fixed for one CORE and what the spec leaves open: the parameters of rule R3 (their default values
stand in Sys2Proof/Machine/Parameters.lean), and the free values (rules R42, R54, R66, R67, R68), which have no body, so
that no proof can see one. The widths `XLEN8`, `ALEN` and `NIRQ` of rule R3 are the types `Byte`, `Word` and `BitVec 5`; its
collaborators are the free values and `Cartridge`. The numbers no rule calls a parameter (cycle costs of instructions,
vectors) stand with the operations that use them. -/

namespace Sys2Proof

/-- The counts of cycles and lines that rule R3 makes parameters (U7 of 93_implementation_defined.md: "budgets and periods
are named parameters"). `LegalTiming` (Sys2Proof/Safety.lean) says which values make a machine. -/
structure Timing where
  /-- `HALT_STEP_CYCLES`, the cost of a Halted step (rules R3, R303). -/
  haltStepCycles : Nat
  /-- `OAM_SCAN_CYCLES`, the budget of object-scan (rules R3, R351). -/
  oamScanCycles : Nat
  /-- `PIXEL_CYCLES`, the budget of pixel-transfer (rules R3, R351). -/
  pixelCycles : Nat
  /-- `HBLANK_CYCLES`, the budget of horizontal-blank (rules R3, R351). -/
  hblankCycles : Nat
  /-- `LINE_CYCLES`, the budget of vertical-blank for each of its lines (rules R3, R351). -/
  lineCycles : Nat
  /-- `VISIBLE_LINES` (rules R3, R355). -/
  visibleLines : Nat
  /-- `VBLANK_LINES` (rules R3, R356). -/
  vblankLines : Nat
  /-- `DIV_PERIOD`, the cycles of one divider increment (rules R3, R342). -/
  divPeriod : Nat
  /-- `TIMA_PERIOD[0]`, the cycles of one counter increment at rate 0 (rules R3, R344). -/
  timaPeriod0 : Nat
  /-- `TIMA_PERIOD[1]`. -/
  timaPeriod1 : Nat
  /-- `TIMA_PERIOD[2]`. -/
  timaPeriod2 : Nat
  /-- `TIMA_PERIOD[3]`. -/
  timaPeriod3 : Nat
  deriving DecidableEq, Repr

/-- The parameters of rule R3. They are data of the machine's state so that every statement about a state holds for every
value of them; no step changes them (rule R400). -/
structure Params where
  /-- `COLOR_MODE`, which the cartridge collaborator reports (rules R3, R54). -/
  colorMode : Bool
  /-- `INT_DISPATCH_CYCLES`, the "fixed extra cycle cost" of a dispatch (rules R3, R307). -/
  intDispatchCycles : Nat
  /-- `STAT_BIT7`, what bit 7 of `STAT` reads as (rules R3, R27). -/
  statBit7 : Bool
  /-- The counts of cycles and lines. -/
  timing : Timing
  deriving DecidableEq, Repr

/-- The arrays of bytes of the machine: the memories local to the CORE (rules R20, R22, R23, R24, R29) and the image of
the ROM-only cartridge (rule R54). -/
inductive Region where
  | vram | wram | oam | hram | bgPalette | objPalette | rom
  deriving DecidableEq, Repr

/-- Which read of a step a collaborator answers, so that two reads of one step are two draws: the `k`-th fetched byte
of the instruction, the `k`-th byte of data it reads, a byte of an object-attribute DMA, a byte of a VRAM DMA. -/
inductive Access where
  | fetch (k : Nat)
  | data (k : Nat)
  | oamDma (i : Nat)
  | vramDma (off : Nat)
  deriving DecidableEq, Repr

/-- FREE VALUE. The launch contents of the memories, which are unspecified: what a byte holds that nothing has written
(rules R42, R401; V1 of 93_implementation_defined.md). -/
opaque Config.launchByte : Region → Nat → Byte

/-- FREE VALUE. The answer of the joypad, serial or audio collaborator to one read: "an oracle answer (a draw)" (rules
R66, R67, R68). The arguments are the draw counter of the state, the access and the low byte of the address. -/
opaque Config.oracleByte : Nat → Access → Byte → Byte

/-- FREE VALUE. What a cartridge that is not the ROM-only one answers to a read of an address, as a function of the
writes it has been handed, oldest first (rule R54: a write "may change the collaborator's own state"). -/
opaque Config.cartridgeByte : List Host.Cell → Word → Byte

end Sys2Proof
end

