-- ==== Sys2Proof/Machine/Parameters.lean ====
section
/-! DEFINITION. The values rule R3 gives the parameters: the last column of its table. -/

namespace Sys2Proof

/-- `CLOCK_HZ`, the clock the cycles are counted in (rules R3, R5): "timing only", no operation reads it. -/
def clockHz : Nat := 4194304

/-- The counts of cycles and lines as rule R3 gives them: "the source's values as defaults" (U7 of
93_implementation_defined.md; rules R303, R342, R344, R351, R357). -/
def Timing.default : Timing :=
  { haltStepCycles := 4,
    oamScanCycles := 80, pixelCycles := 172, hblankCycles := 204, lineCycles := 456,
    visibleLines := 144, vblankLines := 10,
    divPeriod := 256, timaPeriod0 := 1024, timaPeriod1 := 16, timaPeriod2 := 64, timaPeriod3 := 256 }

/-- The values `State.reset` uses: the spec's defaults (rule R3), and no colour mode (DESIGN CHOICE, log entry 3). -/
def Params.default : Params :=
  { colorMode := false, intDispatchCycles := 20, statBit7 := true, timing := .default }

end Sys2Proof
end

