-- ==== Sys2Proof/Syntax.lean ====
section
/-! DEFINITION. The instructions of the CORE as syntax (spec/30_encoding.md, spec/opcode_table.json): the operand
name types of rules R104 to R107 and ONE inductive `Instr` with one constructor per row of the opcode table.

A constructor is named after its row: mnemonic, then operands, `at` standing for "the memory byte at" (rule R117), so
`ld_A_atHLinc` is `LD A,(HL+)`. Operand bytes are the constructor's arguments: `n` an unsigned byte, `e` a displacement
byte (sign extended by its meaning), `nn` a 16-bit immediate (rule R108). -/

namespace Sys2Proof

/-- The seven registers a 3-bit register field can name (rule R104); value 6 names `(HL)` and is no register. -/
inductive Reg8 where
  | B | C | D | E | H | L | A
  deriving DecidableEq, Repr

/-- `rp[p]`: the pairs of loads and 16-bit arithmetic (rule R105). -/
inductive Pair where
  | BC | DE | HL | SP
  deriving DecidableEq, Repr

/-- `rp2[p]`: the pairs of `PUSH` and `POP` (rule R105). -/
inductive StackPair where
  | BC | DE | HL | AF
  deriving DecidableEq, Repr

/-- The four conditions (rule R106). -/
inductive Cond where
  | NZ | Z | NC | C
  deriving DecidableEq, Repr

/-- `alu[y]`, the eight accumulator operations (rule R107). -/
inductive AluOp where
  | ADD | ADC | SUB | SBC | AND | XOR | OR | CP
  deriving DecidableEq, Repr

/-- `rot[y]`, the eight rotate and shift operations (rule R107). -/
inductive RotOp where
  | RLC | RRC | RL | RR | SLA | SRA | SWAP | SRL
  deriving DecidableEq, Repr

/-- The value of a 3-bit field: the bit number of `BIT`, `RES`, `SET` (rules R256 to R261) and the restart number of
`RST` (rule R280). -/
inductive Oct where
  | o0 | o1 | o2 | o3 | o4 | o5 | o6 | o7
  deriving DecidableEq, Repr

/-- The number a 3-bit field stands for. -/
def Oct.toNat : Oct → Nat
  | .o0 => 0 | .o1 => 1 | .o2 => 2 | .o3 => 3 | .o4 => 4 | .o5 => 5 | .o6 => 6 | .o7 => 7

/-- The instructions: one constructor per row of spec/opcode_table.json: the rows with operand bytes first, then the
others, each group in the table's order (256 base rows, then the 256 rows behind the prefix byte). `prefixCb` stands for
the row `PREFIX_CB`: the prefix byte alone, which is no instruction of its own (rule R102). The eleven `illegal_XX` stand for the rows `ILLEGAL` (rules R114, R296). -/
inductive Instr where
  | ld_BC_nn (nn : Word)
  | ld_B_n (n : Byte)
  | ld_atnn_SP (nn : Word)
  | ld_C_n (n : Byte)
  | stop (n : Byte)
  | ld_DE_nn (nn : Word)
  | ld_D_n (n : Byte)
  | jr_e (e : Byte)
  | ld_E_n (n : Byte)
  | jr_NZ_e (e : Byte)
  | ld_HL_nn (nn : Word)
  | ld_H_n (n : Byte)
  | jr_Z_e (e : Byte)
  | ld_L_n (n : Byte)
  | jr_NC_e (e : Byte)
  | ld_SP_nn (nn : Word)
  | ld_atHL_n (n : Byte)
  | jr_C_e (e : Byte)
  | ld_A_n (n : Byte)
  | jp_NZ_nn (nn : Word)
  | jp_nn (nn : Word)
  | call_NZ_nn (nn : Word)
  | add_A_n (n : Byte)
  | jp_Z_nn (nn : Word)
  | call_Z_nn (nn : Word)
  | call_nn (nn : Word)
  | adc_A_n (n : Byte)
  | jp_NC_nn (nn : Word)
  | call_NC_nn (nn : Word)
  | sub_n (n : Byte)
  | jp_C_nn (nn : Word)
  | call_C_nn (nn : Word)
  | sbc_A_n (n : Byte)
  | ldh_atn_A (n : Byte)
  | and_n (n : Byte)
  | add_SP_e (e : Byte)
  | ld_atnn_A (nn : Word)
  | xor_n (n : Byte)
  | ldh_A_atn (n : Byte)
  | or_n (n : Byte)
  | ld_HL_SP_e (e : Byte)
  | ld_A_atnn (nn : Word)
  | cp_n (n : Byte)
  | nop
  | ld_atBC_A
  | inc_BC
  | inc_B
  | dec_B
  | rlca
  | add_HL_BC
  | ld_A_atBC
  | dec_BC
  | inc_C
  | dec_C
  | rrca
  | ld_atDE_A
  | inc_DE
  | inc_D
  | dec_D
  | rla
  | add_HL_DE
  | ld_A_atDE
  | dec_DE
  | inc_E
  | dec_E
  | rra
  | ld_atHLinc_A
  | inc_HL
  | inc_H
  | dec_H
  | daa
  | add_HL_HL
  | ld_A_atHLinc
  | dec_HL
  | inc_L
  | dec_L
  | cpl
  | ld_atHLdec_A
  | inc_SP
  | inc_atHL
  | dec_atHL
  | scf
  | add_HL_SP
  | ld_A_atHLdec
  | dec_SP
  | inc_A
  | dec_A
  | ccf
  | ld_B_B
  | ld_B_C
  | ld_B_D
  | ld_B_E
  | ld_B_H
  | ld_B_L
  | ld_B_atHL
  | ld_B_A
  | ld_C_B
  | ld_C_C
  | ld_C_D
  | ld_C_E
  | ld_C_H
  | ld_C_L
  | ld_C_atHL
  | ld_C_A
  | ld_D_B
  | ld_D_C
  | ld_D_D
  | ld_D_E
  | ld_D_H
  | ld_D_L
  | ld_D_atHL
  | ld_D_A
  | ld_E_B
  | ld_E_C
  | ld_E_D
  | ld_E_E
  | ld_E_H
  | ld_E_L
  | ld_E_atHL
  | ld_E_A
  | ld_H_B
  | ld_H_C
  | ld_H_D
  | ld_H_E
  | ld_H_H
  | ld_H_L
  | ld_H_atHL
  | ld_H_A
  | ld_L_B
  | ld_L_C
  | ld_L_D
  | ld_L_E
  | ld_L_H
  | ld_L_L
  | ld_L_atHL
  | ld_L_A
  | ld_atHL_B
  | ld_atHL_C
  | ld_atHL_D
  | ld_atHL_E
  | ld_atHL_H
  | ld_atHL_L
  | halt
  | ld_atHL_A
  | ld_A_B
  | ld_A_C
  | ld_A_D
  | ld_A_E
  | ld_A_H
  | ld_A_L
  | ld_A_atHL
  | ld_A_A
  | add_A_B
  | add_A_C
  | add_A_D
  | add_A_E
  | add_A_H
  | add_A_L
  | add_A_atHL
  | add_A_A
  | adc_A_B
  | adc_A_C
  | adc_A_D
  | adc_A_E
  | adc_A_H
  | adc_A_L
  | adc_A_atHL
  | adc_A_A
  | sub_B
  | sub_C
  | sub_D
  | sub_E
  | sub_H
  | sub_L
  | sub_atHL
  | sub_A
  | sbc_A_B
  | sbc_A_C
  | sbc_A_D
  | sbc_A_E
  | sbc_A_H
  | sbc_A_L
  | sbc_A_atHL
  | sbc_A_A
  | and_B
  | and_C
  | and_D
  | and_E
  | and_H
  | and_L
  | and_atHL
  | and_A
  | xor_B
  | xor_C
  | xor_D
  | xor_E
  | xor_H
  | xor_L
  | xor_atHL
  | xor_A
  | or_B
  | or_C
  | or_D
  | or_E
  | or_H
  | or_L
  | or_atHL
  | or_A
  | cp_B
  | cp_C
  | cp_D
  | cp_E
  | cp_H
  | cp_L
  | cp_atHL
  | cp_A
  | ret_NZ
  | pop_BC
  | push_BC
  | rst_00
  | ret_Z
  | ret
  | prefixCb
  | rst_08
  | ret_NC
  | pop_DE
  | illegal_D3
  | push_DE
  | rst_10
  | ret_C
  | reti
  | illegal_DB
  | illegal_DD
  | rst_18
  | pop_HL
  | ld_atC_A
  | illegal_E3
  | illegal_E4
  | push_HL
  | rst_20
  | jp_HL
  | illegal_EB
  | illegal_EC
  | illegal_ED
  | rst_28
  | pop_AF
  | ld_A_atC
  | di
  | illegal_F4
  | push_AF
  | rst_30
  | ld_SP_HL
  | ei
  | illegal_FC
  | illegal_FD
  | rst_38
  | rlc_B
  | rlc_C
  | rlc_D
  | rlc_E
  | rlc_H
  | rlc_L
  | rlc_atHL
  | rlc_A
  | rrc_B
  | rrc_C
  | rrc_D
  | rrc_E
  | rrc_H
  | rrc_L
  | rrc_atHL
  | rrc_A
  | rl_B
  | rl_C
  | rl_D
  | rl_E
  | rl_H
  | rl_L
  | rl_atHL
  | rl_A
  | rr_B
  | rr_C
  | rr_D
  | rr_E
  | rr_H
  | rr_L
  | rr_atHL
  | rr_A
  | sla_B
  | sla_C
  | sla_D
  | sla_E
  | sla_H
  | sla_L
  | sla_atHL
  | sla_A
  | sra_B
  | sra_C
  | sra_D
  | sra_E
  | sra_H
  | sra_L
  | sra_atHL
  | sra_A
  | swap_B
  | swap_C
  | swap_D
  | swap_E
  | swap_H
  | swap_L
  | swap_atHL
  | swap_A
  | srl_B
  | srl_C
  | srl_D
  | srl_E
  | srl_H
  | srl_L
  | srl_atHL
  | srl_A
  | bit_0_B
  | bit_0_C
  | bit_0_D
  | bit_0_E
  | bit_0_H
  | bit_0_L
  | bit_0_atHL
  | bit_0_A
  | bit_1_B
  | bit_1_C
  | bit_1_D
  | bit_1_E
  | bit_1_H
  | bit_1_L
  | bit_1_atHL
  | bit_1_A
  | bit_2_B
  | bit_2_C
  | bit_2_D
  | bit_2_E
  | bit_2_H
  | bit_2_L
  | bit_2_atHL
  | bit_2_A
  | bit_3_B
  | bit_3_C
  | bit_3_D
  | bit_3_E
  | bit_3_H
  | bit_3_L
  | bit_3_atHL
  | bit_3_A
  | bit_4_B
  | bit_4_C
  | bit_4_D
  | bit_4_E
  | bit_4_H
  | bit_4_L
  | bit_4_atHL
  | bit_4_A
  | bit_5_B
  | bit_5_C
  | bit_5_D
  | bit_5_E
  | bit_5_H
  | bit_5_L
  | bit_5_atHL
  | bit_5_A
  | bit_6_B
  | bit_6_C
  | bit_6_D
  | bit_6_E
  | bit_6_H
  | bit_6_L
  | bit_6_atHL
  | bit_6_A
  | bit_7_B
  | bit_7_C
  | bit_7_D
  | bit_7_E
  | bit_7_H
  | bit_7_L
  | bit_7_atHL
  | bit_7_A
  | res_0_B
  | res_0_C
  | res_0_D
  | res_0_E
  | res_0_H
  | res_0_L
  | res_0_atHL
  | res_0_A
  | res_1_B
  | res_1_C
  | res_1_D
  | res_1_E
  | res_1_H
  | res_1_L
  | res_1_atHL
  | res_1_A
  | res_2_B
  | res_2_C
  | res_2_D
  | res_2_E
  | res_2_H
  | res_2_L
  | res_2_atHL
  | res_2_A
  | res_3_B
  | res_3_C
  | res_3_D
  | res_3_E
  | res_3_H
  | res_3_L
  | res_3_atHL
  | res_3_A
  | res_4_B
  | res_4_C
  | res_4_D
  | res_4_E
  | res_4_H
  | res_4_L
  | res_4_atHL
  | res_4_A
  | res_5_B
  | res_5_C
  | res_5_D
  | res_5_E
  | res_5_H
  | res_5_L
  | res_5_atHL
  | res_5_A
  | res_6_B
  | res_6_C
  | res_6_D
  | res_6_E
  | res_6_H
  | res_6_L
  | res_6_atHL
  | res_6_A
  | res_7_B
  | res_7_C
  | res_7_D
  | res_7_E
  | res_7_H
  | res_7_L
  | res_7_atHL
  | res_7_A
  | set_0_B
  | set_0_C
  | set_0_D
  | set_0_E
  | set_0_H
  | set_0_L
  | set_0_atHL
  | set_0_A
  | set_1_B
  | set_1_C
  | set_1_D
  | set_1_E
  | set_1_H
  | set_1_L
  | set_1_atHL
  | set_1_A
  | set_2_B
  | set_2_C
  | set_2_D
  | set_2_E
  | set_2_H
  | set_2_L
  | set_2_atHL
  | set_2_A
  | set_3_B
  | set_3_C
  | set_3_D
  | set_3_E
  | set_3_H
  | set_3_L
  | set_3_atHL
  | set_3_A
  | set_4_B
  | set_4_C
  | set_4_D
  | set_4_E
  | set_4_H
  | set_4_L
  | set_4_atHL
  | set_4_A
  | set_5_B
  | set_5_C
  | set_5_D
  | set_5_E
  | set_5_H
  | set_5_L
  | set_5_atHL
  | set_5_A
  | set_6_B
  | set_6_C
  | set_6_D
  | set_6_E
  | set_6_H
  | set_6_L
  | set_6_atHL
  | set_6_A
  | set_7_B
  | set_7_C
  | set_7_D
  | set_7_E
  | set_7_H
  | set_7_L
  | set_7_atHL
  | set_7_A
  deriving DecidableEq, Repr

/-- `LD r,r'`, the 49 forms (rule R130): destination, then source. -/
def Instr.ld : Reg8 → Reg8 → Instr
  | .B, .B => .ld_B_B
  | .B, .C => .ld_B_C
  | .B, .D => .ld_B_D
  | .B, .E => .ld_B_E
  | .B, .H => .ld_B_H
  | .B, .L => .ld_B_L
  | .B, .A => .ld_B_A
  | .C, .B => .ld_C_B
  | .C, .C => .ld_C_C
  | .C, .D => .ld_C_D
  | .C, .E => .ld_C_E
  | .C, .H => .ld_C_H
  | .C, .L => .ld_C_L
  | .C, .A => .ld_C_A
  | .D, .B => .ld_D_B
  | .D, .C => .ld_D_C
  | .D, .D => .ld_D_D
  | .D, .E => .ld_D_E
  | .D, .H => .ld_D_H
  | .D, .L => .ld_D_L
  | .D, .A => .ld_D_A
  | .E, .B => .ld_E_B
  | .E, .C => .ld_E_C
  | .E, .D => .ld_E_D
  | .E, .E => .ld_E_E
  | .E, .H => .ld_E_H
  | .E, .L => .ld_E_L
  | .E, .A => .ld_E_A
  | .H, .B => .ld_H_B
  | .H, .C => .ld_H_C
  | .H, .D => .ld_H_D
  | .H, .E => .ld_H_E
  | .H, .H => .ld_H_H
  | .H, .L => .ld_H_L
  | .H, .A => .ld_H_A
  | .L, .B => .ld_L_B
  | .L, .C => .ld_L_C
  | .L, .D => .ld_L_D
  | .L, .E => .ld_L_E
  | .L, .H => .ld_L_H
  | .L, .L => .ld_L_L
  | .L, .A => .ld_L_A
  | .A, .B => .ld_A_B
  | .A, .C => .ld_A_C
  | .A, .D => .ld_A_D
  | .A, .E => .ld_A_E
  | .A, .H => .ld_A_H
  | .A, .L => .ld_A_L
  | .A, .A => .ld_A_A

/-- `LD r,n` (rule R131). -/
def Instr.ldImm : Reg8 → Byte → Instr
  | .B, n => .ld_B_n n
  | .C, n => .ld_C_n n
  | .D, n => .ld_D_n n
  | .E, n => .ld_E_n n
  | .H, n => .ld_H_n n
  | .L, n => .ld_L_n n
  | .A, n => .ld_A_n n

/-- `LD r,(HL)` (rule R132). -/
def Instr.ldFromHL : Reg8 → Instr
  | .B => .ld_B_atHL
  | .C => .ld_C_atHL
  | .D => .ld_D_atHL
  | .E => .ld_E_atHL
  | .H => .ld_H_atHL
  | .L => .ld_L_atHL
  | .A => .ld_A_atHL

/-- `LD (HL),r` (rule R133). -/
def Instr.ldToHL : Reg8 → Instr
  | .B => .ld_atHL_B
  | .C => .ld_atHL_C
  | .D => .ld_atHL_D
  | .E => .ld_atHL_E
  | .H => .ld_atHL_H
  | .L => .ld_atHL_L
  | .A => .ld_atHL_A

/-- `LD rr,nn` (rule R162). -/
def Instr.ldPair : Pair → Word → Instr
  | .BC, nn => .ld_BC_nn nn
  | .DE, nn => .ld_DE_nn nn
  | .HL, nn => .ld_HL_nn nn
  | .SP, nn => .ld_SP_nn nn

/-- `PUSH rr` (rule R166). -/
def Instr.push : StackPair → Instr
  | .BC => .push_BC
  | .DE => .push_DE
  | .HL => .push_HL
  | .AF => .push_AF

/-- `POP rr` (rule R167). -/
def Instr.pop : StackPair → Instr
  | .BC => .pop_BC
  | .DE => .pop_DE
  | .HL => .pop_HL
  | .AF => .pop_AF

/-- The eight accumulator operations on a register (rule R176). -/
def Instr.alu : AluOp → Reg8 → Instr
  | .ADD, .B => .add_A_B
  | .ADD, .C => .add_A_C
  | .ADD, .D => .add_A_D
  | .ADD, .E => .add_A_E
  | .ADD, .H => .add_A_H
  | .ADD, .L => .add_A_L
  | .ADD, .A => .add_A_A
  | .ADC, .B => .adc_A_B
  | .ADC, .C => .adc_A_C
  | .ADC, .D => .adc_A_D
  | .ADC, .E => .adc_A_E
  | .ADC, .H => .adc_A_H
  | .ADC, .L => .adc_A_L
  | .ADC, .A => .adc_A_A
  | .SUB, .B => .sub_B
  | .SUB, .C => .sub_C
  | .SUB, .D => .sub_D
  | .SUB, .E => .sub_E
  | .SUB, .H => .sub_H
  | .SUB, .L => .sub_L
  | .SUB, .A => .sub_A
  | .SBC, .B => .sbc_A_B
  | .SBC, .C => .sbc_A_C
  | .SBC, .D => .sbc_A_D
  | .SBC, .E => .sbc_A_E
  | .SBC, .H => .sbc_A_H
  | .SBC, .L => .sbc_A_L
  | .SBC, .A => .sbc_A_A
  | .AND, .B => .and_B
  | .AND, .C => .and_C
  | .AND, .D => .and_D
  | .AND, .E => .and_E
  | .AND, .H => .and_H
  | .AND, .L => .and_L
  | .AND, .A => .and_A
  | .XOR, .B => .xor_B
  | .XOR, .C => .xor_C
  | .XOR, .D => .xor_D
  | .XOR, .E => .xor_E
  | .XOR, .H => .xor_H
  | .XOR, .L => .xor_L
  | .XOR, .A => .xor_A
  | .OR, .B => .or_B
  | .OR, .C => .or_C
  | .OR, .D => .or_D
  | .OR, .E => .or_E
  | .OR, .H => .or_H
  | .OR, .L => .or_L
  | .OR, .A => .or_A
  | .CP, .B => .cp_B
  | .CP, .C => .cp_C
  | .CP, .D => .cp_D
  | .CP, .E => .cp_E
  | .CP, .H => .cp_H
  | .CP, .L => .cp_L
  | .CP, .A => .cp_A

/-- The eight accumulator operations on the byte at `HL` (rule R176). -/
def Instr.aluHL : AluOp → Instr
  | .ADD => .add_A_atHL
  | .ADC => .adc_A_atHL
  | .SUB => .sub_atHL
  | .SBC => .sbc_A_atHL
  | .AND => .and_atHL
  | .XOR => .xor_atHL
  | .OR => .or_atHL
  | .CP => .cp_atHL

/-- The eight accumulator operations on an immediate (rule R176). -/
def Instr.aluImm : AluOp → Byte → Instr
  | .ADD, n => .add_A_n n
  | .ADC, n => .adc_A_n n
  | .SUB, n => .sub_n n
  | .SBC, n => .sbc_A_n n
  | .AND, n => .and_n n
  | .XOR, n => .xor_n n
  | .OR, n => .or_n n
  | .CP, n => .cp_n n

/-- `INC r` (rule R206). -/
def Instr.inc : Reg8 → Instr
  | .B => .inc_B
  | .C => .inc_C
  | .D => .inc_D
  | .E => .inc_E
  | .H => .inc_H
  | .L => .inc_L
  | .A => .inc_A

/-- `DEC r` (rule R208). -/
def Instr.dec : Reg8 → Instr
  | .B => .dec_B
  | .C => .dec_C
  | .D => .dec_D
  | .E => .dec_E
  | .H => .dec_H
  | .L => .dec_L
  | .A => .dec_A

/-- `INC rr` (rule R221). -/
def Instr.incPair : Pair → Instr
  | .BC => .inc_BC
  | .DE => .inc_DE
  | .HL => .inc_HL
  | .SP => .inc_SP

/-- `DEC rr` (rule R222). -/
def Instr.decPair : Pair → Instr
  | .BC => .dec_BC
  | .DE => .dec_DE
  | .HL => .dec_HL
  | .SP => .dec_SP

/-- `ADD HL,rr` (rule R223). -/
def Instr.addHL : Pair → Instr
  | .BC => .add_HL_BC
  | .DE => .add_HL_DE
  | .HL => .add_HL_HL
  | .SP => .add_HL_SP

/-- The eight rotates and shifts of a register (rules R240 to R255). -/
def Instr.rot : RotOp → Reg8 → Instr
  | .RLC, .B => .rlc_B
  | .RLC, .C => .rlc_C
  | .RLC, .D => .rlc_D
  | .RLC, .E => .rlc_E
  | .RLC, .H => .rlc_H
  | .RLC, .L => .rlc_L
  | .RLC, .A => .rlc_A
  | .RRC, .B => .rrc_B
  | .RRC, .C => .rrc_C
  | .RRC, .D => .rrc_D
  | .RRC, .E => .rrc_E
  | .RRC, .H => .rrc_H
  | .RRC, .L => .rrc_L
  | .RRC, .A => .rrc_A
  | .RL, .B => .rl_B
  | .RL, .C => .rl_C
  | .RL, .D => .rl_D
  | .RL, .E => .rl_E
  | .RL, .H => .rl_H
  | .RL, .L => .rl_L
  | .RL, .A => .rl_A
  | .RR, .B => .rr_B
  | .RR, .C => .rr_C
  | .RR, .D => .rr_D
  | .RR, .E => .rr_E
  | .RR, .H => .rr_H
  | .RR, .L => .rr_L
  | .RR, .A => .rr_A
  | .SLA, .B => .sla_B
  | .SLA, .C => .sla_C
  | .SLA, .D => .sla_D
  | .SLA, .E => .sla_E
  | .SLA, .H => .sla_H
  | .SLA, .L => .sla_L
  | .SLA, .A => .sla_A
  | .SRA, .B => .sra_B
  | .SRA, .C => .sra_C
  | .SRA, .D => .sra_D
  | .SRA, .E => .sra_E
  | .SRA, .H => .sra_H
  | .SRA, .L => .sra_L
  | .SRA, .A => .sra_A
  | .SWAP, .B => .swap_B
  | .SWAP, .C => .swap_C
  | .SWAP, .D => .swap_D
  | .SWAP, .E => .swap_E
  | .SWAP, .H => .swap_H
  | .SWAP, .L => .swap_L
  | .SWAP, .A => .swap_A
  | .SRL, .B => .srl_B
  | .SRL, .C => .srl_C
  | .SRL, .D => .srl_D
  | .SRL, .E => .srl_E
  | .SRL, .H => .srl_H
  | .SRL, .L => .srl_L
  | .SRL, .A => .srl_A

/-- The eight rotates and shifts of the byte at `HL` (rules R240 to R255). -/
def Instr.rotHL : RotOp → Instr
  | .RLC => .rlc_atHL
  | .RRC => .rrc_atHL
  | .RL => .rl_atHL
  | .RR => .rr_atHL
  | .SLA => .sla_atHL
  | .SRA => .sra_atHL
  | .SWAP => .swap_atHL
  | .SRL => .srl_atHL

/-- `BIT b,r` (rule R256). -/
def Instr.bit : Oct → Reg8 → Instr
  | .o0, .B => .bit_0_B
  | .o0, .C => .bit_0_C
  | .o0, .D => .bit_0_D
  | .o0, .E => .bit_0_E
  | .o0, .H => .bit_0_H
  | .o0, .L => .bit_0_L
  | .o0, .A => .bit_0_A
  | .o1, .B => .bit_1_B
  | .o1, .C => .bit_1_C
  | .o1, .D => .bit_1_D
  | .o1, .E => .bit_1_E
  | .o1, .H => .bit_1_H
  | .o1, .L => .bit_1_L
  | .o1, .A => .bit_1_A
  | .o2, .B => .bit_2_B
  | .o2, .C => .bit_2_C
  | .o2, .D => .bit_2_D
  | .o2, .E => .bit_2_E
  | .o2, .H => .bit_2_H
  | .o2, .L => .bit_2_L
  | .o2, .A => .bit_2_A
  | .o3, .B => .bit_3_B
  | .o3, .C => .bit_3_C
  | .o3, .D => .bit_3_D
  | .o3, .E => .bit_3_E
  | .o3, .H => .bit_3_H
  | .o3, .L => .bit_3_L
  | .o3, .A => .bit_3_A
  | .o4, .B => .bit_4_B
  | .o4, .C => .bit_4_C
  | .o4, .D => .bit_4_D
  | .o4, .E => .bit_4_E
  | .o4, .H => .bit_4_H
  | .o4, .L => .bit_4_L
  | .o4, .A => .bit_4_A
  | .o5, .B => .bit_5_B
  | .o5, .C => .bit_5_C
  | .o5, .D => .bit_5_D
  | .o5, .E => .bit_5_E
  | .o5, .H => .bit_5_H
  | .o5, .L => .bit_5_L
  | .o5, .A => .bit_5_A
  | .o6, .B => .bit_6_B
  | .o6, .C => .bit_6_C
  | .o6, .D => .bit_6_D
  | .o6, .E => .bit_6_E
  | .o6, .H => .bit_6_H
  | .o6, .L => .bit_6_L
  | .o6, .A => .bit_6_A
  | .o7, .B => .bit_7_B
  | .o7, .C => .bit_7_C
  | .o7, .D => .bit_7_D
  | .o7, .E => .bit_7_E
  | .o7, .H => .bit_7_H
  | .o7, .L => .bit_7_L
  | .o7, .A => .bit_7_A

/-- `BIT b,(HL)` (rule R257). -/
def Instr.bitHL : Oct → Instr
  | .o0 => .bit_0_atHL
  | .o1 => .bit_1_atHL
  | .o2 => .bit_2_atHL
  | .o3 => .bit_3_atHL
  | .o4 => .bit_4_atHL
  | .o5 => .bit_5_atHL
  | .o6 => .bit_6_atHL
  | .o7 => .bit_7_atHL

/-- `RES b,r` (rule R258). -/
def Instr.res : Oct → Reg8 → Instr
  | .o0, .B => .res_0_B
  | .o0, .C => .res_0_C
  | .o0, .D => .res_0_D
  | .o0, .E => .res_0_E
  | .o0, .H => .res_0_H
  | .o0, .L => .res_0_L
  | .o0, .A => .res_0_A
  | .o1, .B => .res_1_B
  | .o1, .C => .res_1_C
  | .o1, .D => .res_1_D
  | .o1, .E => .res_1_E
  | .o1, .H => .res_1_H
  | .o1, .L => .res_1_L
  | .o1, .A => .res_1_A
  | .o2, .B => .res_2_B
  | .o2, .C => .res_2_C
  | .o2, .D => .res_2_D
  | .o2, .E => .res_2_E
  | .o2, .H => .res_2_H
  | .o2, .L => .res_2_L
  | .o2, .A => .res_2_A
  | .o3, .B => .res_3_B
  | .o3, .C => .res_3_C
  | .o3, .D => .res_3_D
  | .o3, .E => .res_3_E
  | .o3, .H => .res_3_H
  | .o3, .L => .res_3_L
  | .o3, .A => .res_3_A
  | .o4, .B => .res_4_B
  | .o4, .C => .res_4_C
  | .o4, .D => .res_4_D
  | .o4, .E => .res_4_E
  | .o4, .H => .res_4_H
  | .o4, .L => .res_4_L
  | .o4, .A => .res_4_A
  | .o5, .B => .res_5_B
  | .o5, .C => .res_5_C
  | .o5, .D => .res_5_D
  | .o5, .E => .res_5_E
  | .o5, .H => .res_5_H
  | .o5, .L => .res_5_L
  | .o5, .A => .res_5_A
  | .o6, .B => .res_6_B
  | .o6, .C => .res_6_C
  | .o6, .D => .res_6_D
  | .o6, .E => .res_6_E
  | .o6, .H => .res_6_H
  | .o6, .L => .res_6_L
  | .o6, .A => .res_6_A
  | .o7, .B => .res_7_B
  | .o7, .C => .res_7_C
  | .o7, .D => .res_7_D
  | .o7, .E => .res_7_E
  | .o7, .H => .res_7_H
  | .o7, .L => .res_7_L
  | .o7, .A => .res_7_A

/-- `RES b,(HL)` (rule R259). -/
def Instr.resHL : Oct → Instr
  | .o0 => .res_0_atHL
  | .o1 => .res_1_atHL
  | .o2 => .res_2_atHL
  | .o3 => .res_3_atHL
  | .o4 => .res_4_atHL
  | .o5 => .res_5_atHL
  | .o6 => .res_6_atHL
  | .o7 => .res_7_atHL

/-- `SET b,r` (rule R260). -/
def Instr.set : Oct → Reg8 → Instr
  | .o0, .B => .set_0_B
  | .o0, .C => .set_0_C
  | .o0, .D => .set_0_D
  | .o0, .E => .set_0_E
  | .o0, .H => .set_0_H
  | .o0, .L => .set_0_L
  | .o0, .A => .set_0_A
  | .o1, .B => .set_1_B
  | .o1, .C => .set_1_C
  | .o1, .D => .set_1_D
  | .o1, .E => .set_1_E
  | .o1, .H => .set_1_H
  | .o1, .L => .set_1_L
  | .o1, .A => .set_1_A
  | .o2, .B => .set_2_B
  | .o2, .C => .set_2_C
  | .o2, .D => .set_2_D
  | .o2, .E => .set_2_E
  | .o2, .H => .set_2_H
  | .o2, .L => .set_2_L
  | .o2, .A => .set_2_A
  | .o3, .B => .set_3_B
  | .o3, .C => .set_3_C
  | .o3, .D => .set_3_D
  | .o3, .E => .set_3_E
  | .o3, .H => .set_3_H
  | .o3, .L => .set_3_L
  | .o3, .A => .set_3_A
  | .o4, .B => .set_4_B
  | .o4, .C => .set_4_C
  | .o4, .D => .set_4_D
  | .o4, .E => .set_4_E
  | .o4, .H => .set_4_H
  | .o4, .L => .set_4_L
  | .o4, .A => .set_4_A
  | .o5, .B => .set_5_B
  | .o5, .C => .set_5_C
  | .o5, .D => .set_5_D
  | .o5, .E => .set_5_E
  | .o5, .H => .set_5_H
  | .o5, .L => .set_5_L
  | .o5, .A => .set_5_A
  | .o6, .B => .set_6_B
  | .o6, .C => .set_6_C
  | .o6, .D => .set_6_D
  | .o6, .E => .set_6_E
  | .o6, .H => .set_6_H
  | .o6, .L => .set_6_L
  | .o6, .A => .set_6_A
  | .o7, .B => .set_7_B
  | .o7, .C => .set_7_C
  | .o7, .D => .set_7_D
  | .o7, .E => .set_7_E
  | .o7, .H => .set_7_H
  | .o7, .L => .set_7_L
  | .o7, .A => .set_7_A

/-- `SET b,(HL)` (rule R261). -/
def Instr.setHL : Oct → Instr
  | .o0 => .set_0_atHL
  | .o1 => .set_1_atHL
  | .o2 => .set_2_atHL
  | .o3 => .set_3_atHL
  | .o4 => .set_4_atHL
  | .o5 => .set_5_atHL
  | .o6 => .set_6_atHL
  | .o7 => .set_7_atHL

/-- `JP cc,nn` (rule R271). -/
def Instr.jpCond : Cond → Word → Instr
  | .NZ, nn => .jp_NZ_nn nn
  | .Z, nn => .jp_Z_nn nn
  | .NC, nn => .jp_NC_nn nn
  | .C, nn => .jp_C_nn nn

/-- `JR cc,e` (rule R274). -/
def Instr.jrCond : Cond → Byte → Instr
  | .NZ, e => .jr_NZ_e e
  | .Z, e => .jr_Z_e e
  | .NC, e => .jr_NC_e e
  | .C, e => .jr_C_e e

/-- `CALL cc,nn` (rule R276). -/
def Instr.callCond : Cond → Word → Instr
  | .NZ, nn => .call_NZ_nn nn
  | .Z, nn => .call_Z_nn nn
  | .NC, nn => .call_NC_nn nn
  | .C, nn => .call_C_nn nn

/-- `RET cc` (rule R278). -/
def Instr.retCond : Cond → Instr
  | .NZ => .ret_NZ
  | .Z => .ret_Z
  | .NC => .ret_NC
  | .C => .ret_C

/-- `RST t` with `t = 8 * y` (rule R280). -/
def Instr.rst : Oct → Instr
  | .o0 => .rst_00
  | .o1 => .rst_08
  | .o2 => .rst_10
  | .o3 => .rst_18
  | .o4 => .rst_20
  | .o5 => .rst_28
  | .o6 => .rst_30
  | .o7 => .rst_38

end Sys2Proof
end

