-- ==== Sys2Proof/Machine/State.lean ====
section
/-! DEFINITION. The state of the machine (spec/10_state.md), as plain data, and its reset (rules R40 to R42, R400). The
machine aggregate of rule R35 is the record `State`; its parts follow the blocks of rule R2. -/

namespace Sys2Proof.Machine

/-- An array of bytes: the bytes that something has written, addresses strictly rising. A byte that is not listed has
its launch value, which is free (`Config.launchByte`; log entry 4). -/
abbrev Memory := List Host.Cell

/-- `m` is in canonical form and lies inside an array of `size` bytes. An unlisted byte reads as no listed value, so
there is no entry to leave out. -/
abbrev Memory.wf (size : Nat) (m : Memory) : Prop :=
  List.Pairwise (fun c d => c.1 < d.1) m ∧ ∀ c ∈ m, c.1 < size

/-- The general registers, `SP` and `PC` (rules R10, R13, R14). Bits 3:0 of `f` read as zero and ignore writes (rule
R12): every write of `f` clears them. -/
structure Regs where
  a : Byte
  f : Byte
  b : Byte
  c : Byte
  d : Byte
  e : Byte
  h : Byte
  l : Byte
  sp : Word
  pc : Word
  deriving DecidableEq, Repr

/-- The interrupt state: `IE`, `IF`, `IME`, `IME_PENDING` (rules R15 to R18). -/
structure Irq where
  ie : BitVec 5
  flag : BitVec 5
  ime : Bool
  imePending : Bool
  deriving DecidableEq, Repr

/-- `RUN`, the run state of the instruction engine (rule R19). `faulted` is terminal and keeps the opcode. -/
inductive RunState where
  | running
  | halted
  | faulted (op : Byte)
  deriving DecidableEq, Repr

/-- The memories local to the CORE, banks laid one after the other: `WRAM[bank][offset]` at `4096 * bank + offset` (rule
R20), `VRAM[bank][offset]` at `8192 * bank + offset` (rule R23), `HRAM` (rule R22), `OAM` (rule R24), the two palette
memories (rule R29). -/
structure Memories where
  vram : Memory
  wram : Memory
  oam : Memory
  hram : Memory
  bgPalette : Memory
  objPalette : Memory
  deriving DecidableEq, Repr

/-- The four graphics modes (rule R350). -/
inductive Mode where
  | hblank
  | vblank
  | oamScan
  | transfer
  deriving DecidableEq, Repr

/-- A palette index register, `BCPS` or `OCPS`: bit 7 (auto-increment) and bits 5:0 (rule R29). -/
structure PaletteIndex where
  autoInc : Bool
  index : BitVec 6
  deriving DecidableEq, Repr

/-- The graphics registers and timing state (rules R23, R25 to R29). `STAT[6:3]` are the four enable bits `lycIe`,
`oamIe`, `vblIe`, `hblIe`, `STAT[2]` is `coinc`, `STAT[1:0]` is `mode` (rule R27). -/
structure Graphics where
  lcdc : Byte
  lycIe : Bool
  oamIe : Bool
  vblIe : Bool
  hblIe : Bool
  coinc : Bool
  mode : Mode
  scy : Byte
  scx : Byte
  ly : Byte
  lyc : Byte
  bgp : Byte
  obp0 : Byte
  obp1 : Byte
  wy : Byte
  wx : Byte
  vbk : BitVec 1
  bcps : PaletteIndex
  ocps : PaletteIndex
  modeClock : Nat
  deriving DecidableEq, Repr

/-- The timer's registers and its two sub-cycle accumulators (rules R30, R31). -/
structure Timer where
  div : Byte
  tima : Byte
  tma : Byte
  tac : BitVec 3
  divAcc : Nat
  timaAcc : Nat
  deriving DecidableEq, Repr

/-- The DMA state (rule R32). -/
structure Dma where
  oamdma : Byte
  src : Word
  dst : Word
  remaining : Nat
  block : Nat
  active : Bool
  hdma5 : Byte
  deriving DecidableEq, Repr

/-- The cartridge collaborator (rules R33, R54): the ROM-only cartridge with its image, or any other, of which the
CORE's side is kept: the writes it has been handed, oldest first. -/
inductive Cartridge where
  | romOnly (rom : Memory)
  | external (writes : List Host.Cell)
  deriving DecidableEq, Repr

/-- What one step gives to the outside (rules R80, R364, R372): bytes handed to the joypad and audio collaborators
(rules R66, R68), the audio collaborator's cycles (rule R302), and the pulses of the graphics engine (rules R354, R362,
R364, R367). -/
inductive Output where
  | joypadWrite (v : Byte)
  | audioWrite (n v : Byte)
  | audioAdvance (cycles : Nat)
  | scanline (ly : Byte)
  | hblankEvent
  | frame
  | blankFrame
  deriving DecidableEq, Repr

/-- The state of the machine (rule R35), with the collaborator's state and the parameters the model takes (rules R3,
R33). -/
structure State where
  regs : Regs
  irq : Irq
  run : RunState
  mems : Memories
  /-- `SVBK`, the work-RAM bank select (rule R21). -/
  svbk : BitVec 3
  gfx : Graphics
  timer : Timer
  dma : Dma
  cart : Cartridge
  params : Params
  /-- The model's own: the draw counter that numbers the reads answered by a collaborator (log entry 5). -/
  draws : Nat
  /-- The model's own: the outputs of the current step, oldest first (log entry 6). -/
  outputs : List Output
  deriving DecidableEq, Repr

/-- The reasons a step stops with a fault. -/
inductive Fault where
  /-- Raised by `step` from `RUN = Faulted(op)`, and by nothing else: the machine was ended by the illegal opcode `op` and
  takes no further step (rules R300, R320, R331). Safe: the model stops where the hardware does nothing. -/
  | decodeFault (op : Byte)
  deriving DecidableEq, Repr

/-- The reasons a step, or an action of the host, is refused. -/
inductive Refusal where
  /-- Raised by an arm of `exec` whose instruction has no meaning yet: no arm does. Safe. -/
  | notModelled (mnemonic : String)
  /-- Raised by `restoreSnapshot` when the snapshot is of a differently configured core: "undefined behavior by design":
  "a model refuses it" (rule R330, U2). No step raises it. Safe. -/
  | snapshotMismatch
  deriving DecidableEq, Repr

/-- The outcome of an instruction or a step. -/
abbrev Result := Host.Outcome State Fault Refusal

/-- The CPU part of the reset state (rule R40). -/
def Regs.reset (p : Params) : Regs :=
  { a := if p.colorMode then 0x11 else 0x01, f := 0xB0, b := 0x00, c := 0x13, d := 0x00, e := 0xD8, h := 0x01, l := 0x4D,
    sp := 0xFFFE, pc := 0x0100 }

/-- `IME = 0`, `IME_PENDING = 0`, `IE = 0`, `IF = 0b00001` (rule R40). -/
def Irq.reset : Irq := { ie := 0, flag := 1, ime := false, imePending := false }

/-- The graphics part of the reset state (rule R41). -/
def Graphics.reset : Graphics :=
  { lcdc := 0x91, lycIe := false, oamIe := false, vblIe := false, hblIe := false, coinc := true, mode := .oamScan,
    scy := 0, scx := 0, ly := 0, lyc := 0, bgp := 0xFC, obp0 := 0xFF, obp1 := 0xFF, wy := 0, wx := 0, vbk := 0,
    bcps := { autoInc := false, index := 0 }, ocps := { autoInc := false, index := 0 }, modeClock := 0 }

/-- The timer part of the reset state (rule R41). -/
def Timer.reset : Timer := { div := 0, tima := 0, tma := 0, tac := 0, divAcc := 0, timaAcc := 0 }

/-- The DMA part of the reset state (rule R41). -/
def Dma.reset : Dma := { oamdma := 0xFF, src := 0, dst := 0, remaining := 0, block := 0, active := false, hdma5 := 0xFF }

/-- `Reset()` (rule R400) for given parameters and a given cartridge: no byte of memory has been written. -/
def State.resetWith (p : Params) (cart : Cartridge) : State :=
  { regs := Regs.reset p, irq := Irq.reset, run := .running,
    mems := { vram := [], wram := [], oam := [], hram := [], bgPalette := [], objPalette := [] },
    svbk := 0, gfx := Graphics.reset, timer := Timer.reset, dma := Dma.reset, cart := cart, params := p,
    draws := 0, outputs := [] }

/-- The machine right after reset, with the default parameters and a ROM-only cartridge of which no byte is known. -/
def State.reset : State := State.resetWith Params.default (.romOnly [])

end Sys2Proof.Machine
end

