-- ==== Sys2Proof/Machine/Registers.lean ====
section
/-! DEFINITION. The registers as the instructions name them (rules R10 to R18, R104 to R106): the one place where a
register is read or written. -/

namespace Sys2Proof.Machine

/-- The four flags (rule R12), in the order of rule R6. -/
structure Flags where
  z : Bool
  n : Bool
  h : Bool
  c : Bool
  deriving DecidableEq, Repr

/-- The byte that holds the flags: `F[7] = Z`, `F[6] = N`, `F[5] = H`, `F[4] = C`, `F[3:0]` zero (rule R12). -/
def Flags.toByte (fl : Flags) : Byte :=
  BitVec.ofBool fl.z ++ BitVec.ofBool fl.n ++ BitVec.ofBool fl.h ++ BitVec.ofBool fl.c ++ 0#4

/-- The flags (rule R12). -/
def State.flags (s : State) : Flags :=
  { z := s.regs.f.getLsbD 7, n := s.regs.f.getLsbD 6, h := s.regs.f.getLsbD 5, c := s.regs.f.getLsbD 4 }

/-- Write of the four flags. -/
def State.setFlags (s : State) (fl : Flags) : State := { s with regs := { s.regs with f := fl.toByte } }

/-- `F` as it is read: bits 3:0 "always read as zero" (rule R12). -/
def State.readF (s : State) : Byte := s.regs.f &&& 0xF0

/-- Write of `F`: bits 3:0 "ignore writes" (rule R12). -/
def State.writeF (s : State) (v : Byte) : State := { s with regs := { s.regs with f := v &&& 0xF0 } }

/-- `x[i]` (rule R104). -/
def State.reg (s : State) : Reg8 → Byte
  | .B => s.regs.b
  | .C => s.regs.c
  | .D => s.regs.d
  | .E => s.regs.e
  | .H => s.regs.h
  | .L => s.regs.l
  | .A => s.regs.a

/-- `x[i] <- v` (rule R104). -/
def Regs.write (g : Regs) (r : Reg8) (v : Byte) : Regs :=
  match r with
  | .B => { g with b := v }
  | .C => { g with c := v }
  | .D => { g with d := v }
  | .E => { g with e := v }
  | .H => { g with h := v }
  | .L => { g with l := v }
  | .A => { g with a := v }

/-- `x[i] <- v` (rule R104). -/
def State.setReg (s : State) (r : Reg8) (v : Byte) : State := { s with regs := s.regs.write r v }

/-- Write of the program counter. -/
def State.setPc (s : State) (v : Word) : State := { s with regs := { s.regs with pc := v } }

/-- Write of the stack pointer. -/
def State.setSp (s : State) (v : Word) : State := { s with regs := { s.regs with sp := v } }

/-- `BC = {B, C}` (rule R11). -/
def State.bc (s : State) : Word := s.regs.b ++ s.regs.c

/-- `DE = {D, E}` (rule R11). -/
def State.de (s : State) : Word := s.regs.d ++ s.regs.e

/-- `HL = {H, L}` (rule R11). -/
def State.hl (s : State) : Word := s.regs.h ++ s.regs.l

/-- `AF = {A, F}` (rule R11). -/
def State.af (s : State) : Word := s.regs.a ++ s.readF

/-- The high half of a 16-bit value, `v[15:8]`. -/
def hiByte (v : Word) : Byte := v.extractLsb' 8 8

/-- The low half of a 16-bit value, `v[7:0]`. -/
def loByte (v : Word) : Byte := v.extractLsb' 0 8

/-- `BC <- v` (rule R11). -/
def State.setBc (s : State) (v : Word) : State := (s.setReg .B (hiByte v)).setReg .C (loByte v)

/-- `DE <- v` (rule R11). -/
def State.setDe (s : State) (v : Word) : State := (s.setReg .D (hiByte v)).setReg .E (loByte v)

/-- `HL <- v` (rule R11). -/
def State.setHl (s : State) (v : Word) : State := (s.setReg .H (hiByte v)).setReg .L (loByte v)

/-- `AF <- v`, the low nibble of `v` discarded (rules R11, R167). -/
def State.setAf (s : State) (v : Word) : State := (s.setReg .A (hiByte v)).writeF (loByte v)

/-- `rp[p]` (rule R105). -/
def State.pair (s : State) : Pair → Word
  | .BC => s.bc
  | .DE => s.de
  | .HL => s.hl
  | .SP => s.regs.sp

/-- `rp[p] <- v` (rule R105). -/
def State.setPair (s : State) (p : Pair) (v : Word) : State :=
  match p with
  | .BC => s.setBc v
  | .DE => s.setDe v
  | .HL => s.setHl v
  | .SP => s.setSp v

/-- `rp2[p]` (rule R105). -/
def State.stackPair (s : State) : StackPair → Word
  | .BC => s.bc
  | .DE => s.de
  | .HL => s.hl
  | .AF => s.af

/-- `rp2[p] <- v` (rules R105, R167). -/
def State.setStackPair (s : State) (p : StackPair) (v : Word) : State :=
  match p with
  | .BC => s.setBc v
  | .DE => s.setDe v
  | .HL => s.setHl v
  | .AF => s.setAf v

/-- Whether a condition holds (rule R106). -/
def State.cond (s : State) : Cond → Bool
  | .NZ => !s.flags.z
  | .Z => s.flags.z
  | .NC => !s.flags.c
  | .C => s.flags.c

/-- `RUN <- r` (rule R19). -/
def State.setRun (s : State) (r : RunState) : State := { s with run := r }

/-- `IME <- b` (rule R17). -/
def State.setIme (s : State) (b : Bool) : State := { s with irq := { s.irq with ime := b } }

/-- `IME_PENDING <- b` (rule R18). -/
def State.setImePending (s : State) (b : Bool) : State := { s with irq := { s.irq with imePending := b } }

/-- `IE <- v` (rule R15). -/
def State.setIe (s : State) (v : BitVec 5) : State := { s with irq := { s.irq with ie := v } }

/-- `IF <- v` (rule R16). -/
def State.setIf (s : State) (v : BitVec 5) : State := { s with irq := { s.irq with flag := v } }

/-- The bit of interrupt source `i` in `IE` and `IF` (rule R305). -/
def sourceBit (i : Nat) : BitVec 5 := 1#5 <<< i

/-- `IF[i] <- 1`: source `i` requests (rules R16, R305). -/
def State.request (s : State) (i : Nat) : State := s.setIf (s.irq.flag ||| sourceBit i)

/-- `IF[i] <- 0` (rule R307). -/
def State.clearRequest (s : State) (i : Nat) : State := s.setIf (s.irq.flag &&& ~~~sourceBit i)

/-- One output added (log entry 6). -/
def State.emit (s : State) (o : Output) : State := { s with outputs := s.outputs ++ [o] }

/-- The draw counter advanced: the reads before and after it are different draws (log entry 5). -/
def State.nextDraw (s : State) : State := { s with draws := s.draws + 1 }

end Sys2Proof.Machine
end

