-- ==== Sys2Proof/Machine/Flags.lean ====
section
/-! DEFINITION. The ALU: every arithmetic, logic, rotate and shift function with its flags, as pure functions (rules R170
to R176, R214, R220, R224, R230). The ALU is "stateless": a function takes its operands, and the old flags where it keeps
some, and gives the truncated result and the flags. Sums and differences are exact, in one bit more than the operands
have, and carries are read by "XOR-ing the two operands with the raw (untruncated) intermediate result" (rule R171). -/

namespace Sys2Proof.Machine

/-- A carry or borrow input as a number. -/
def carryIn (w : Nat) (c : Bool) : BitVec w := (BitVec.ofBool c).setWidth w

/-- `Add8(a, b, cin)` (rule R172). -/
def add8 (a b : Byte) (cin : Bool) : Byte × Flags :=
  let raw : BitVec 9 := a.setWidth 9 + b.setWidth 9 + carryIn 9 cin
  let x := a.setWidth 9 ^^^ b.setWidth 9 ^^^ raw
  let res := raw.setWidth 8
  (res, { z := res == 0, n := false, h := x.getLsbD 4, c := raw.getLsbD 8 })

/-- `Sub8(a, b, cin)` (rule R173): `raw` is the difference in two's complement, carries are borrows. -/
def sub8 (a b : Byte) (cin : Bool) : Byte × Flags :=
  let raw : BitVec 9 := a.setWidth 9 - b.setWidth 9 - carryIn 9 cin
  let x := a.setWidth 9 ^^^ b.setWidth 9 ^^^ raw
  let res := raw.setWidth 8
  (res, { z := res == 0, n := true, h := x.getLsbD 4, c := x.getLsbD 8 })

/-- The flags of `Logic8` (rule R174): `H` is 1 for `AND` and 0 for `XOR` and `OR`, `C` is 0. -/
def logicFlags (res : Byte) (h : Bool) : Flags := { z := res == 0, n := false, h := h, c := false }

/-- `Logic8(AND, a, b)` (rule R174). -/
def and8 (a b : Byte) : Byte × Flags := (a &&& b, logicFlags (a &&& b) true)

/-- `Logic8(XOR, a, b)` (rule R174). -/
def xor8 (a b : Byte) : Byte × Flags := (a ^^^ b, logicFlags (a ^^^ b) false)

/-- `Logic8(OR, a, b)` (rule R174). -/
def or8 (a b : Byte) : Byte × Flags := (a ||| b, logicFlags (a ||| b) false)

/-- The eight accumulator operations `alu[y]` (rules R107, R180 to R203); `CP` computes as `SUB` (its result is
discarded by the meaning). -/
def aluResult (op : AluOp) (a b : Byte) (c : Bool) : Byte × Flags :=
  match op with
  | .ADD => add8 a b false
  | .ADC => add8 a b c
  | .SUB => sub8 a b false
  | .SBC => sub8 a b c
  | .AND => and8 a b
  | .XOR => xor8 a b
  | .OR => or8 a b
  | .CP => sub8 a b false

/-- `Inc8(a)`, `C` kept (rule R175). -/
def inc8 (a : Byte) (old : Flags) : Byte × Flags :=
  (a + 1, { z := a + 1 == 0, n := false, h := a &&& 0x0F == 0x0F, c := old.c })

/-- `Dec8(a)`, `C` kept (rule R175). -/
def dec8 (a : Byte) (old : Flags) : Byte × Flags :=
  (a - 1, { z := a - 1 == 0, n := true, h := a &&& 0x0F == 0x00, c := old.c })

/-- The correction `DAA` applies: both tests are made on `A` before any correction (rule R214). -/
def daaCorrection (a : Byte) (old : Flags) : Byte :=
  (if old.h || (!old.n && decide (0x09 < (a &&& 0x0F).toNat)) then 0x06 else 0x00) |||
  (if old.c || (!old.n && decide (0x99 < a.toNat)) then 0x60 else 0x00)

/-- `DAA` (rule R214); `N` is kept. -/
def daa8 (a : Byte) (old : Flags) : Byte × Flags :=
  let corr := daaCorrection a old
  let res := if old.n then a - corr else a + corr
  (res, { z := res == 0, n := old.n, h := false, c := corr &&& 0x60 != 0 })

/-- `Add16(a, b)`, `Z` kept (rule R220). -/
def add16 (a b : Word) (old : Flags) : Word × Flags :=
  let raw : BitVec 17 := a.setWidth 17 + b.setWidth 17
  let x := a.setWidth 17 ^^^ b.setWidth 17 ^^^ raw
  (raw.setWidth 16, { z := old.z, n := false, h := x.getLsbD 12, c := raw.getLsbD 16 })

/-- `sext_16(e)`: the displacement of `e` (rule R108). -/
def displacement (e : Byte) : Word := e.signExtend 16

/-- `SP` plus a displacement, with the carries of the low byte (rules R165, R224). -/
def addSp (sp : Word) (e : Byte) : Word × Flags :=
  let d := displacement e
  let r : BitVec 17 := sp.setWidth 17 + d.setWidth 17
  let x := sp.setWidth 17 ^^^ d.setWidth 17 ^^^ r
  (r.setWidth 16, { z := false, n := false, h := x.getLsbD 4, c := x.getLsbD 8 })

/-- The eight functions `rot[y]`: result and carry out (rule R230). -/
def rotate (op : RotOp) (v : Byte) (c : Bool) : Byte × Bool :=
  match op with
  | .RLC => (v.extractLsb' 0 7 ++ v.extractLsb' 7 1, v.getLsbD 7)
  | .RRC => (v.extractLsb' 0 1 ++ v.extractLsb' 1 7, v.getLsbD 0)
  | .RL => (v.extractLsb' 0 7 ++ BitVec.ofBool c, v.getLsbD 7)
  | .RR => (BitVec.ofBool c ++ v.extractLsb' 1 7, v.getLsbD 0)
  | .SLA => (v.extractLsb' 0 7 ++ 0#1, v.getLsbD 7)
  | .SRA => (v.extractLsb' 7 1 ++ v.extractLsb' 1 7, v.getLsbD 0)
  | .SWAP => (v.extractLsb' 0 4 ++ v.extractLsb' 4 4, false)
  | .SRL => (0#1 ++ v.extractLsb' 1 7, v.getLsbD 0)

/-- The flags of the extended rotates and shifts (rule R230). -/
def rotFlags (r : Byte × Bool) : Flags := { z := r.1 == 0, n := false, h := false, c := r.2 }

/-- The flags of the four accumulator rotates, which clear `Z` (rules R231 to R234). -/
def rotAccFlags (r : Byte × Bool) : Flags := { z := false, n := false, h := false, c := r.2 }

/-- The flags of `BIT`, `C` kept (rules R256, R257). -/
def bitFlags (b : Oct) (v : Byte) (old : Flags) : Flags :=
  { z := !v.getLsbD b.toNat, n := false, h := true, c := old.c }

/-- `1 << b`. -/
def bitMask (b : Oct) : Byte := 1#8 <<< b.toNat

/-- `v & ~(1 << b)` (rules R258, R259). -/
def resetBit (b : Oct) (v : Byte) : Byte := v &&& ~~~bitMask b

/-- `v | (1 << b)` (rules R260, R261). -/
def setBit (b : Oct) (v : Byte) : Byte := v ||| bitMask b

end Sys2Proof.Machine
end

