-- ==== Sys2Proof/Machine/Memory.lean ====
section
/-! DEFINITION. Reading and writing one byte of a memory (rules R20 to R24, R29, R42), in the canonical form of
`Memory`. -/

namespace Sys2Proof.Machine

/-- The byte listed at `k`, if something has written it. -/
def readCell : Memory → Nat → Option Byte
  | [], _ => none
  | (a, v) :: m, k => if a = k then some v else readCell m k

/-- The memory with `v` at `k`, addresses kept strictly rising. -/
def writeCell : Memory → Nat → Byte → Memory
  | [], k, v => [(k, v)]
  | (a, w) :: m, k, v =>
    if k < a then (k, v) :: (a, w) :: m
    else if k = a then (k, v) :: m
    else (a, w) :: writeCell m k v

/-- The byte at `k` of a memory: the value most recently written, or the launch value (rules R42, R73). -/
def cellValue (r : Region) (m : Memory) (k : Nat) : Byte := (readCell m k).getD (Config.launchByte r k)

/-- The size of a region in bytes (rules R20, R22, R23, R24, R29, R54). -/
def regionSize : Region → Nat
  | .vram => 16384
  | .wram => 32768
  | .oam => 160
  | .hram => 256
  | .bgPalette => 64
  | .objPalette => 64
  | .rom => 32768

/-- The image of the cartridge, empty for one that is not the ROM-only cartridge. -/
def Cartridge.image : Cartridge → Memory
  | .romOnly rom => rom
  | .external _ => []

/-- The bytes written so far in a region. -/
def State.region (s : State) : Region → Memory
  | .vram => s.mems.vram
  | .wram => s.mems.wram
  | .oam => s.mems.oam
  | .hram => s.mems.hram
  | .bgPalette => s.mems.bgPalette
  | .objPalette => s.mems.objPalette
  | .rom => s.cart.image

/-- One byte of a region. -/
def State.readMem (s : State) (r : Region) (k : Nat) : Byte := cellValue r (s.region r) k

/-- The memories with one byte written; `rom` is not among them and nothing writes it. -/
def Memories.write (m : Memories) (r : Region) (k : Nat) (v : Byte) : Memories :=
  match r with
  | .vram => { m with vram := writeCell m.vram k v }
  | .wram => { m with wram := writeCell m.wram k v }
  | .oam => { m with oam := writeCell m.oam k v }
  | .hram => { m with hram := writeCell m.hram k v }
  | .bgPalette => { m with bgPalette := writeCell m.bgPalette k v }
  | .objPalette => { m with objPalette := writeCell m.objPalette k v }
  | .rom => m

/-- The state with one byte of a region written. -/
def State.writeMem (s : State) (r : Region) (k : Nat) (v : Byte) : State := { s with mems := s.mems.write r k v }

end Sys2Proof.Machine
end

