-- ==== Sys2Proof/Machine/Bus.lean ====
section
/-! DEFINITION. The address decoder and the read side of the bus (spec/20_memory.md): which component an address selects
(rules R51, R59, R62) and `Read8` (rule R52). A read changes no state (rule R72). -/

namespace Sys2Proof.Machine

/-- What a 16-bit address selects: exactly one component (rules R50, R51), with the offset inside it. The echo selects
what the address `0x2000` below selects (rule R59). -/
inductive Target where
  | cartridge
  | vram (off : Nat)
  | workFixed (off : Nat)
  | workBanked (off : Nat)
  | oam (i : Nat)
  | unusable
  | interruptEnable
  | io (n : Byte)
  deriving DecidableEq, Repr

/-- The region table (rules R51, R52, R53). -/
def decodeAddr (a : Word) : Target :=
  let n := a.toNat
  if n ≤ 0x7FFF then .cartridge
  else if n ≤ 0x9FFF then .vram (n - 0x8000)
  else if n ≤ 0xBFFF then .cartridge
  else if n ≤ 0xCFFF then .workFixed (n - 0xC000)
  else if n ≤ 0xDFFF then .workBanked (n - 0xD000)
  else if n ≤ 0xEFFF then .workFixed (n - 0x2000 - 0xC000)
  else if n ≤ 0xFDFF then .workBanked (n - 0x2000 - 0xD000)
  else if n ≤ 0xFE9F then .oam (n - 0xFE00)
  else if n ≤ 0xFEFF then .unusable
  else if n = 0xFFFF then .interruptEnable
  else .io (a.setWidth 8)

/-- The register a low byte selects in `FF00`-`FFFE` (rule R62); `highRam` covers high RAM and the fallback for
addresses that match no named register (rule R63). -/
inductive IoReg where
  | joypad | serial
  | div | tima | tma | tac
  | interruptFlag
  | audio
  | lcdc | stat | scy | scx | ly | lyc | oamdma | bgp | obp0 | obp1 | wy | wx
  | vbk
  | hdma1 | hdma2 | hdma3 | hdma4 | hdma5
  | bcps | bcpd | ocps | ocpd
  | svbk
  | highRam
  deriving DecidableEq, Repr

/-- The I/O window's decode by low byte (rule R62). -/
def ioReg (n : Byte) : IoReg :=
  if n = 0x00 then .joypad
  else if n = 0x01 ∨ n = 0x02 then .serial
  else if n = 0x04 then .div
  else if n = 0x05 then .tima
  else if n = 0x06 then .tma
  else if n = 0x07 then .tac
  else if n = 0x0F then .interruptFlag
  else if 0x10 ≤ n.toNat ∧ n.toNat ≤ 0x3F then .audio
  else if n = 0x40 then .lcdc
  else if n = 0x41 then .stat
  else if n = 0x42 then .scy
  else if n = 0x43 then .scx
  else if n = 0x44 then .ly
  else if n = 0x45 then .lyc
  else if n = 0x46 then .oamdma
  else if n = 0x47 then .bgp
  else if n = 0x48 then .obp0
  else if n = 0x49 then .obp1
  else if n = 0x4A then .wy
  else if n = 0x4B then .wx
  else if n = 0x4F then .vbk
  else if n = 0x51 then .hdma1
  else if n = 0x52 then .hdma2
  else if n = 0x53 then .hdma3
  else if n = 0x54 then .hdma4
  else if n = 0x55 then .hdma5
  else if n = 0x68 then .bcps
  else if n = 0x69 then .bcpd
  else if n = 0x6A then .ocps
  else if n = 0x6B then .ocpd
  else if n = 0x70 then .svbk
  else .highRam

/-- `vbank = if COLOR_MODE then VBK else 0` (rule R23). -/
def State.vbank (s : State) : Nat := if s.params.colorMode then s.gfx.vbk.toNat else 0

/-- `wbank`, the bank at `D000`-`DFFF`: 1 without `COLOR_MODE`, else `SVBK` with 0 read as 1 (rule R21). -/
def State.wbank (s : State) : Nat :=
  if s.params.colorMode then (if s.svbk = 0 then 1 else s.svbk.toNat) else 1

/-- Where `VRAM[vbank][off]` lies in the video RAM (rule R23). -/
def State.vramCell (s : State) (off : Nat) : Nat := 8192 * s.vbank + off

/-- Where `WRAM[wbank][off]` lies in the work RAM (rule R20). -/
def State.wramCell (s : State) (off : Nat) : Nat := 4096 * s.wbank + off

/-- `Cartridge.read(a)` (rules R54, R56): the ROM-only cartridge reads its image below `0x8000` and 0 above. -/
def State.readCartridge (s : State) (a : Word) : Byte :=
  match s.cart with
  | .romOnly _ => if a.toNat ≤ 0x7FFF then s.readMem .rom a.toNat else 0
  | .external writes => Config.cartridgeByte writes a

/-- The two bits `STAT[1:0]` shows for a mode (rules R27, R350). -/
def Mode.bits : Mode → BitVec 2
  | .hblank => 0
  | .vblank => 1
  | .oamScan => 2
  | .transfer => 3

/-- `STAT` as it is read: `{STAT_BIT7, STAT[6:0]}` (rules R27, R369). -/
def State.readStat (s : State) : Byte :=
  BitVec.ofBool s.params.statBit7 ++ BitVec.ofBool s.gfx.lycIe ++ BitVec.ofBool s.gfx.oamIe ++
    BitVec.ofBool s.gfx.vblIe ++ BitVec.ofBool s.gfx.hblIe ++ BitVec.ofBool s.gfx.coinc ++ s.gfx.mode.bits

/-- `BCPS` or `OCPS` as it is read: bit 6 reads 0 (rule R29). -/
def PaletteIndex.toByte (p : PaletteIndex) : Byte := BitVec.ofBool p.autoInc ++ 0#1 ++ p.index

/-- `IoRead(n)` (rule R62). -/
def State.ioRead (s : State) (acc : Access) (n : Byte) : Byte :=
  match ioReg n with
  | .joypad | .serial | .audio => Config.oracleByte s.draws acc n
  | .div => s.timer.div
  | .tima => s.timer.tima
  | .tma => s.timer.tma
  | .tac => s.timer.tac.setWidth 8
  | .interruptFlag => 0xE0 ||| s.irq.flag.setWidth 8
  | .lcdc => s.gfx.lcdc
  | .stat => s.readStat
  | .scy => s.gfx.scy
  | .scx => s.gfx.scx
  | .ly => s.gfx.ly
  | .lyc => s.gfx.lyc
  | .oamdma => s.dma.oamdma
  | .bgp => s.gfx.bgp
  | .obp0 => s.gfx.obp0
  | .obp1 => s.gfx.obp1
  | .wy => s.gfx.wy
  | .wx => s.gfx.wx
  | .vbk => s.gfx.vbk.setWidth 8
  | .hdma1 | .hdma2 | .hdma3 | .hdma4 => 0xFF
  | .hdma5 => s.dma.hdma5
  | .bcps => s.gfx.bcps.toByte
  | .bcpd => s.readMem .bgPalette s.gfx.bcps.index.toNat
  | .ocps => s.gfx.ocps.toByte
  | .ocpd => s.readMem .objPalette s.gfx.ocps.index.toNat
  | .svbk => s.svbk.setWidth 8
  | .highRam => s.readMem .hram n.toNat

/-- `Read8(a)` (rule R52): one byte through the bus decoder. `acc` names the read, which matters only where a
collaborator answers it (rules R66 to R68). -/
def State.read8 (s : State) (acc : Access) (a : Word) : Byte :=
  match decodeAddr a with
  | .cartridge => s.readCartridge a
  | .vram off => s.readMem .vram (s.vramCell off)
  | .workFixed off => s.readMem .wram off
  | .workBanked off => s.readMem .wram (s.wramCell off)
  | .oam i => s.readMem .oam i
  | .unusable => 0x00
  | .interruptEnable => s.irq.ie.setWidth 8
  | .io n => s.ioRead acc n

end Sys2Proof.Machine
end

