-- ==== Sys2Proof/Machine/Dma.lean ====
section
/-! DEFINITION. The DMA engine (spec/61_devices.md rules R380 to R389). Both kinds of DMA complete inside the write or
the horizontal-blank event that starts them, cost no cycles and raise no interrupt (rules R389, R415). -/

namespace Sys2Proof.Machine

/-- `OamDma(v)` (rule R380): 160 bytes from `v * 256`, read through the full decoder in ascending order, into `OAM`. -/
def oamDma (v : Byte) (s : State) : State :=
  let s := { s with dma := { s.dma with oamdma := v } }
  let s := (List.range 160).foldl
    (fun t i => t.writeMem .oam i (t.read8 (.oamDma i) (BitVec.ofNat 16 (v.toNat * 256 + i)))) s
  s.nextDraw

/-- `SrcAddr(off) = ((HDMA_SRC & 0xFFF0) + off) mod 65536` (rule R381). -/
def Dma.srcAddr (d : Dma) (off : Nat) : Word := (d.src &&& 0xFFF0) + BitVec.ofNat 16 off

/-- The offset in video RAM of `DstAddr(off) = 0x8000 | ((HDMA_DST & 0x1FF0) + off) mod 0x2000` (rule R381). -/
def Dma.dstOffset (d : Dma) (off : Nat) : Nat := ((d.dst &&& 0x1FF0).toNat + off) % 0x2000

/-- `DstAddr(off)` (rule R381). -/
def Dma.dstAddr (d : Dma) (off : Nat) : Word := BitVec.ofNat 16 (0x8000 + d.dstOffset off)

/-- `Write8(DstAddr(off), Read8(SrcAddr(off)))` (rules R383, R385). The destination lies in `8000`-`9FFF`, so the bus
write is a write of `VRAM[vbank]` (rule R53). -/
def vramDmaByte (off : Nat) (s : State) : State :=
  s.writeMem .vram (s.vramCell (s.dma.dstOffset off)) (s.read8 (.vramDma off) (s.dma.srcAddr off))

/-- `n` bytes from offset `base` on, in ascending order, each read immediately before its write (rules R383, R385). -/
def vramDmaCopy (base n : Nat) (s : State) : State :=
  ((List.range n).foldl (fun t k => vramDmaByte (base + k) t) s).nextDraw

/-- Write of the DMA registers. -/
def State.setDma (s : State) (d : Dma) : State := { s with dma := d }

/-- `ImmediateCopy(blocks)` (rule R383). -/
def immediateCopy (blocks : Nat) (s : State) : State :=
  let s := vramDmaCopy 0 (blocks * 16) s
  s.setDma { s.dma with hdma5 := 0xFF }

/-- `Arm(v, blocks)` (rule R384). -/
def armVramDma (v : Byte) (blocks : Nat) (s : State) : State :=
  s.setDma { s.dma with remaining := blocks, block := 0, active := true, hdma5 := v &&& 0x7F }

/-- `Abort()` (rule R387). -/
def abortVramDma (s : State) : State :=
  s.setDma { s.dma with active := false, hdma5 := s.dma.hdma5 ||| 0x80 }

/-- `Hdma5Write(v)` (rule R382). -/
def hdma5Write (v : Byte) (s : State) : State :=
  if s.dma.active && !v.getLsbD 7 then abortVramDma s
  else
    let blocks := (v &&& 0x7F).toNat + 1
    if v.getLsbD 7 then armVramDma v blocks s else immediateCopy blocks s

/-- `DmaHBlank()` (rules R385, R386): one block on a horizontal-blank event while a transfer is active. -/
def dmaHBlank (s : State) : State :=
  if s.dma.active then
    let s := vramDmaCopy (s.dma.block * 16) 16 s
    let remaining := s.dma.remaining - 1
    if remaining = 0 then
      s.setDma { s.dma with block := s.dma.block + 1, remaining := 0, hdma5 := 0xFF, active := false }
    else
      s.setDma { s.dma with block := s.dma.block + 1, remaining := remaining,
                            hdma5 := BitVec.ofNat 8 (remaining - 1) &&& 0x7F }
  else s

end Sys2Proof.Machine
end

