-- ==== Sys2Proof/Machine/Graphics.lean ====
section
/-! DEFINITION. The graphics timing engine (spec/61_devices.md rules R350 to R371): a mode state machine driven by cycle
counts. Pixel composition is out of scope (rule R372); the engine's outputs are recorded. -/

namespace Sys2Proof.Machine

/-- Write of the graphics registers. -/
def State.setGfx (s : State) (g : Graphics) : State := { s with gfx := g }

/-- `LCDC[7]`, the "graphics-enable control bit" (rule R26). -/
def State.displayOn (s : State) : Bool := s.gfx.lcdc.getLsbD 7

/-- `Budget(mode)` (rule R351), of the parameters of rule R3. -/
def Mode.budget (m : Mode) (t : Timing) : Nat :=
  match m with
  | .oamScan => t.oamScanCycles
  | .transfer => t.pixelCycles
  | .hblank => t.hblankCycles
  | .vblank => t.lineCycles

/-- `Budget(mode)` of the state's mode and parameters. -/
def State.budget (s : State) : Nat := s.gfx.mode.budget s.params.timing

/-- The last line of vertical-blank: the visible lines and the "additional lines" are numbered from 0 on (rules R351,
R356), so it is 153 with the default values. -/
def lastLine (t : Timing) : Nat := t.visibleLines + t.vblankLines - 1

/-- `IF[1] <- 1` where a status enable bit is set (rules R361, R363). -/
def statusRequest (enable : Bool) (s : State) : State := if enable then s.request 1 else s

/-- `CoincidenceCheck()` (rules R358, R363). -/
def coincidenceCheck (s : State) : State :=
  let equal := s.gfx.ly == s.gfx.lyc
  let s := s.setGfx { s.gfx with coinc := equal }
  statusRequest (equal && s.gfx.lycIe) s

/-- `SetScanline(n)` (rule R358). -/
def setScanline (n : Byte) (s : State) : State := coincidenceCheck (s.setGfx { s.gfx with ly := n })

/-- `HBlankEvent()`: the event fires and the DMA engine consumes it within the same step (rules R302, R362, R385). -/
def hblankEvent (s : State) : State := dmaHBlank (s.emit .hblankEvent)

/-- `SetMode(m)` with the entry actions of the mode, in their order (rule R359). -/
def setMode (m : Mode) (s : State) : State :=
  let s := s.setGfx { s.gfx with mode := m }
  match m with
  | .transfer => s
  | .hblank => hblankEvent (statusRequest s.gfx.hblIe (s.emit (.scanline s.gfx.ly)))
  | .vblank => statusRequest s.gfx.vblIe ((s.emit .frame).request 0)
  | .oamScan => statusRequest s.gfx.oamIe s

/-- `HBlankExit()` (rule R355): vertical-blank begins after the last of the `VISIBLE_LINES`. -/
def hblankExit (s : State) : State :=
  let s := setScanline (s.gfx.ly + 1) s
  if s.gfx.ly.toNat = s.params.timing.visibleLines then setMode .vblank s else setMode .oamScan s

/-- `VBlankLine()` (rule R356). -/
def vblankLine (s : State) : State :=
  if s.gfx.ly.toNat = lastLine s.params.timing then setMode .oamScan (setScanline 0 s)
  else setScanline (s.gfx.ly + 1) s

/-- The end of a mode's budget (rule R352). -/
def modeEnd (s : State) : State :=
  match s.gfx.mode with
  | .oamScan => setMode .transfer s
  | .transfer => setMode .hblank s
  | .hblank => hblankExit s
  | .vblank => vblankLine s

/-- The loop of `GraphicsStep` (rule R352): while the accumulator holds the budget of the mode, take it out and end the
mode. `fuel` bounds the number of turns. -/
def graphicsLoop : Nat → State → State
  | 0, s => s
  | fuel + 1, s =>
    if s.budget ≤ s.gfx.modeClock then
      graphicsLoop fuel (modeEnd (s.setGfx { s.gfx with modeClock := s.gfx.modeClock - s.budget }))
    else s

/-- `GraphicsStep(cycles)` (rules R352, R366). A turn of the loop takes out a budget, which is no less than one cycle, so
the fuel is enough (log entries 15, 21). -/
def graphicsStep (cycles : Nat) (s : State) : State :=
  if s.displayOn then
    let clock := s.gfx.modeClock + cycles
    graphicsLoop (clock + 1) (s.setGfx { s.gfx with modeClock := clock })
  else s

/-- `DisableReset()` (rule R367). -/
def disableReset (s : State) : State :=
  let s := s.emit .blankFrame
  s.setGfx { s.gfx with ly := 0, mode := .hblank, modeClock := 0 }

/-- `SetControl(v)`, a write of `LCDC` (rules R365, R367, R368). -/
def setControl (v : Byte) (s : State) : State :=
  let old := s.displayOn
  let s := s.setGfx { s.gfx with lcdc := v }
  if old && !v.getLsbD 7 then disableReset s
  else if !old && v.getLsbD 7 then coincidenceCheck s
  else s

end Sys2Proof.Machine
end

