-- ==== Sys2Proof/Machine/Timer.lean ====
section
/-! DEFINITION. The timer (spec/61_devices.md rules R340 to R349): two counters that share a cycle-accumulation policy:
"while the accumulator holds at least one period, take one period out and increment the counter once" (rule R341), so
the counter is incremented once per whole period in the accumulator and the remainder stays. -/

namespace Sys2Proof.Machine

/-- Write of the timer's registers. -/
def State.setTimer (s : State) (t : Timer) : State := { s with timer := t }

/-- `DivStep(cycles)` (rule R342), with the period `DIV_PERIOD` of rule R3: `DIV` wraps silently. -/
def divStep (cycles : Nat) (s : State) : State :=
  let acc := s.timer.divAcc + cycles
  let period := s.params.timing.divPeriod
  s.setTimer { s.timer with divAcc := acc % period, div := s.timer.div + BitVec.ofNat 8 (acc / period) }

/-- `Period(f)` (rule R344), of the parameters of rule R3. -/
def timaPeriod (t : Timing) (f : BitVec 2) : Nat :=
  match f with
  | 0 => t.timaPeriod0
  | 1 => t.timaPeriod1
  | 2 => t.timaPeriod2
  | _ => t.timaPeriod3

/-- `TimaTick()` (rule R345): on overflow the counter reloads from `TMA` in the same tick and source 2 requests. -/
def timaTick (s : State) : State :=
  if s.timer.tima = 0xFF then (s.setTimer { s.timer with tima := s.timer.tma }).request 2
  else s.setTimer { s.timer with tima := s.timer.tima + 1 }

/-- `n` ticks. -/
def timaTicks : Nat → State → State
  | 0, s => s
  | n + 1, s => timaTicks n (timaTick s)

/-- `TimaStep(cycles)` (rule R343): a disabled counter does not count and does not accumulate. -/
def timaStep (cycles : Nat) (s : State) : State :=
  if s.timer.tac.getLsbD 2 then
    let acc := s.timer.timaAcc + cycles
    let period := timaPeriod s.params.timing (s.timer.tac.extractLsb' 0 2)
    timaTicks (acc / period) (s.setTimer { s.timer with timaAcc := acc % period })
  else s

/-- `TimerStep(cycles)` (rule R341). -/
def timerStep (cycles : Nat) (s : State) : State := timaStep cycles (divStep cycles s)

/-- A write of the divider "resets both accumulators to zero regardless of the written value" and clears `DIV` (rule
R346). -/
def writeDiv (s : State) : State := s.setTimer { s.timer with div := 0, divAcc := 0, timaAcc := 0 }

end Sys2Proof.Machine
end

