-- ==== Sys2Proof/Machine/Ops.lean ====
section
/-! DEFINITION. The named operations over memory and registers that the instructions and the step share: `Write8` (rule
R53), the stack (rules R160, R161), taking an interrupt (rules R301, R307) and the return from one (rule R279), the
decode fault (rules R296, R320), and the cycle broadcast (rule R302). -/

namespace Sys2Proof.Machine

/-! ## The write side of the bus -/

/-- `Cartridge.write(a, v)` (rules R54, R56): dropped by the ROM-only cartridge; any other is handed the write. -/
def State.writeCartridge (s : State) (a : Word) (v : Byte) : State :=
  match s.cart with
  | .romOnly _ => s
  | .external writes => { s with cart := .external (writes ++ [(a.toNat, v)]) }

/-- A write of `STAT`: `STAT[6:3] <- v[6:3]` (rules R27, R369). -/
def writeStat (v : Byte) (s : State) : State :=
  s.setGfx { s.gfx with lycIe := v.getLsbD 6, oamIe := v.getLsbD 5, vblIe := v.getLsbD 4, hblIe := v.getLsbD 3 }

/-- A write of `BCPS` or `OCPS`: `v[7]` and `v[5:0]` are stored (rule R29). -/
def PaletteIndex.ofByte (v : Byte) : PaletteIndex := { autoInc := v.getLsbD 7, index := v.extractLsb' 0 6 }

/-- The index after a palette write: one higher, modulo 64, if auto-increment is set (rule R29). -/
def PaletteIndex.afterWrite (p : PaletteIndex) : PaletteIndex :=
  if p.autoInc then { p with index := p.index + 1 } else p

/-- `IoWrite(n, v)` (rule R62). -/
def ioWrite (n v : Byte) (s : State) : State :=
  match ioReg n with
  | .joypad => s.emit (.joypadWrite v)
  | .serial => s
  | .div => writeDiv s
  | .tima => s.setTimer { s.timer with tima := v }
  | .tma => s.setTimer { s.timer with tma := v }
  | .tac => s.setTimer { s.timer with tac := v.extractLsb' 0 3 }
  | .interruptFlag => s.setIf (v.extractLsb' 0 5)
  | .audio => s.emit (.audioWrite n v)
  | .lcdc => setControl v s
  | .stat => writeStat v s
  | .scy => s.setGfx { s.gfx with scy := v }
  | .scx => s.setGfx { s.gfx with scx := v }
  | .ly => s
  | .lyc => s.setGfx { s.gfx with lyc := v }
  | .oamdma => oamDma v s
  | .bgp => s.setGfx { s.gfx with bgp := v }
  | .obp0 => s.setGfx { s.gfx with obp0 := v }
  | .obp1 => s.setGfx { s.gfx with obp1 := v }
  | .wy => s.setGfx { s.gfx with wy := v }
  | .wx => s.setGfx { s.gfx with wx := v }
  | .vbk => s.setGfx { s.gfx with vbk := v.extractLsb' 0 1 }
  | .hdma1 => s.setDma { s.dma with src := v ++ loByte s.dma.src }
  | .hdma2 => s.setDma { s.dma with src := hiByte s.dma.src ++ v }
  | .hdma3 => s.setDma { s.dma with dst := v ++ loByte s.dma.dst }
  | .hdma4 => s.setDma { s.dma with dst := hiByte s.dma.dst ++ v }
  | .hdma5 => hdma5Write v s
  | .bcps => s.setGfx { s.gfx with bcps := PaletteIndex.ofByte v }
  | .bcpd =>
    (s.writeMem .bgPalette s.gfx.bcps.index.toNat v).setGfx { s.gfx with bcps := s.gfx.bcps.afterWrite }
  | .ocps => s.setGfx { s.gfx with ocps := PaletteIndex.ofByte v }
  | .ocpd =>
    (s.writeMem .objPalette s.gfx.ocps.index.toNat v).setGfx { s.gfx with ocps := s.gfx.ocps.afterWrite }
  | .svbk => { s with svbk := v.extractLsb' 0 3 }
  | .highRam => s.writeMem .hram n.toNat v

/-- `Write8(a, v)` (rule R53): one byte through the bus decoder, with the side effects of the address (rule R72). -/
def State.write8 (s : State) (a : Word) (v : Byte) : State :=
  match decodeAddr a with
  | .cartridge => s.writeCartridge a v
  | .vram off => s.writeMem .vram (s.vramCell off) v
  | .workFixed off => s.writeMem .wram off v
  | .workBanked off => s.writeMem .wram (s.wramCell off) v
  | .oam i => s.writeMem .oam i v
  | .unusable => s
  | .interruptEnable => s.setIe (v.extractLsb' 0 5)
  | .io n => ioWrite n v s

/-! ## The stack -/

/-- `Push16(v)` (rule R160): the high byte first, at the higher address. -/
def push16 (v : Word) (s : State) : State :=
  let s := s.setSp (s.regs.sp - 1)
  let s := s.write8 s.regs.sp (hiByte v)
  let s := s.setSp (s.regs.sp - 1)
  s.write8 s.regs.sp (loByte v)

/-- The value `Pop16()` returns (rule R161): the low byte at `SP`, the high byte at `SP + 1`. -/
def popValue (s : State) : Word := s.read8 (.data 1) (s.regs.sp + 1) ++ s.read8 (.data 0) s.regs.sp

/-- What `Pop16()` does to the state: `SP` rises by 2, modulo 65536 (rule R161). -/
def popSp (s : State) : State := s.setSp (s.regs.sp + 2)

/-! ## Interrupts and the decode fault -/

/-- The vector of source `i` (rule R305). -/
def vectorOf (i : Nat) : Word := 0x0040 + BitVec.ofNat 16 (8 * i)

/-- `Dispatch(i)`, taking an interrupt: the request and `IME` are cleared, `PC` is pushed, control goes to the source's
vector (rule R307). Nothing else is saved. -/
def dispatch (i : Nat) (s : State) : State :=
  let s := (s.clearRequest i).setIme false
  let s := push16 s.regs.pc s
  s.setPc (vectorOf i)

/-- The sources both requested and enabled, `IE & IF` (rules R301, R304). -/
def State.pending (s : State) : BitVec 5 := s.irq.ie &&& s.irq.flag

/-- The guard of the servicing phase, with both its conjuncts (rule R304). -/
def State.serviceGuard (s : State) : Bool :=
  s.pending != 0 && (0xE0#8 ||| s.irq.flag.setWidth 8) != 0xE0

/-- The least source that is requested and enabled: the fixed priority order (rule R306). -/
def State.firstSource (s : State) : Nat :=
  if s.pending.getLsbD 0 then 0
  else if s.pending.getLsbD 1 then 1
  else if s.pending.getLsbD 2 then 2
  else if s.pending.getLsbD 3 then 3
  else 4

/-- Whether a dispatch happens in this servicing phase (rule R301). -/
def State.dispatches (s : State) : Bool := s.serviceGuard && s.irq.ime && !s.irq.imePending

/-- `RUN` leaves Halted (rule R308). -/
def wake (s : State) : State := if s.run = .halted then s.setRun .running else s

/-- The state after `ServiceInterrupts()` (rules R301, R308, R309). -/
def serviceInterrupts (s : State) : State :=
  let s' := if s.dispatches then dispatch s.firstSource s else s
  let s' := if s.serviceGuard then wake s' else s'
  s'.setImePending false

/-- The extra cycles `ServiceInterrupts()` returns (rules R301, R307). -/
def serviceCycles (s : State) : Nat := if s.dispatches then s.params.intDispatchCycles else 0

/-- The return from an interrupt: `pc <- Pop16(); IME <- 1`, with no latency (rule R279). -/
def returnFromInterrupt (s : State) : State := ((popSp s).setPc (popValue s)).setIme true

/-- `raise DecodeFault(op)`: `RUN <- Faulted(op)` and no other change (rules R296, R320). -/
def raiseDecodeFault (op : Byte) (s : State) : State := s.setRun (.faulted op)

/-! ## The cycle broadcast -/

/-- `Broadcast(cycles)`: timer, graphics engine, audio collaborator, in this order (rule R302). -/
def broadcast (cycles : Nat) (s : State) : State :=
  (graphicsStep cycles (timerStep cycles s)).emit (.audioAdvance cycles)

end Sys2Proof.Machine
end

