-- ==== Sys2Proof/Machine/Operands.lean ====
section
/-! DEFINITION. The operand forms (rules R104, R108, R148): the byte at `HL`, the effective addresses of the loads with
their post-modification, and the targets of relative jumps. -/

namespace Sys2Proof.Machine

/-- The effective address of an 8-bit load (rule R148). -/
inductive AddrMode where
  | bc | de | hl
  /-- An absolute address `nn`. -/
  | abs (nn : Word)
  /-- `0xFF00 + n`. -/
  | high (n : Byte)
  /-- `0xFF00 + C`. -/
  | highC
  /-- `HL`, incremented after the access. -/
  | hlInc
  /-- `HL`, decremented after the access. -/
  | hlDec
  deriving DecidableEq, Repr

/-- The address on the high page (rule R108). -/
def highPage (n : Byte) : Word := 0xFF00 + n.setWidth 16

/-- The address an 8-bit load accesses (rule R148). -/
def State.effAddr (s : State) : AddrMode → Word
  | .bc => s.bc
  | .de => s.de
  | .hl => s.hl
  | .abs nn => nn
  | .high n => highPage n
  | .highC => highPage s.regs.c
  | .hlInc => s.hl
  | .hlDec => s.hl

/-- The post-modification of `HL`, modulo 65536 (rules R144 to R148). -/
def State.postModify (s : State) : AddrMode → State
  | .hlInc => s.setHl (s.hl + 1)
  | .hlDec => s.setHl (s.hl - 1)
  | .bc | .de | .hl | .abs _ | .high _ | .highC => s

/-- `Read8(HL)`: the operand `(HL)` read (rule R104). -/
def State.readHL (s : State) : Byte := s.read8 (.data 0) s.hl

/-- `Write8(HL, v)`: the operand `(HL)` written (rule R104). -/
def State.writeHL (s : State) (v : Byte) : State := s.write8 s.hl v

/-- `(PCn + sext_16(e)) mod 65536`, the target of a relative jump (rule R273). -/
def State.relTarget (s : State) (e : Byte) : Word := s.regs.pc + displacement e

end Sys2Proof.Machine
end

