-- ==== Sys2Proof/Machine/Alu16.lean ====
section
/-! DEFINITION. 16-bit arithmetic (spec/43_alu16.md rules R220 to R224). -/

namespace Sys2Proof.Machine

/-- `HL <- Add16(HL, rp[p])` (rule R223). -/
def addToHl (p : Pair) (s : State) : State :=
  (s.setHl (add16 s.hl (s.pair p) s.flags).1).setFlags (add16 s.hl (s.pair p) s.flags).2

/-- `INC BC` (rule R221). -/
def execInc_BC (s : State) : Result := .next (s.setPair .BC (s.pair .BC + 1))

/-- `ADD HL,BC` (rule R223). -/
def execAdd_HL_BC (s : State) : Result := .next (addToHl .BC s)

/-- `DEC BC` (rule R222). -/
def execDec_BC (s : State) : Result := .next (s.setPair .BC (s.pair .BC - 1))

/-- `INC DE` (rule R221). -/
def execInc_DE (s : State) : Result := .next (s.setPair .DE (s.pair .DE + 1))

/-- `ADD HL,DE` (rule R223). -/
def execAdd_HL_DE (s : State) : Result := .next (addToHl .DE s)

/-- `DEC DE` (rule R222). -/
def execDec_DE (s : State) : Result := .next (s.setPair .DE (s.pair .DE - 1))

/-- `INC HL` (rule R221). -/
def execInc_HL (s : State) : Result := .next (s.setPair .HL (s.pair .HL + 1))

/-- `ADD HL,HL` (rule R223). -/
def execAdd_HL_HL (s : State) : Result := .next (addToHl .HL s)

/-- `DEC HL` (rule R222). -/
def execDec_HL (s : State) : Result := .next (s.setPair .HL (s.pair .HL - 1))

/-- `INC SP` (rule R221). -/
def execInc_SP (s : State) : Result := .next (s.setPair .SP (s.pair .SP + 1))

/-- `ADD HL,SP` (rule R223). -/
def execAdd_HL_SP (s : State) : Result := .next (addToHl .SP s)

/-- `DEC SP` (rule R222). -/
def execDec_SP (s : State) : Result := .next (s.setPair .SP (s.pair .SP - 1))

/-- `ADD SP,e` (rule R224). -/
def execAdd_SP_e (e : Byte) (s : State) : Result := .next ((s.setSp (addSp s.regs.sp e).1).setFlags (addSp s.regs.sp e).2)

end Sys2Proof.Machine
end

