-- ==== Sys2Proof/Machine/Alu8.lean ====
section
/-! DEFINITION. 8-bit arithmetic and logic (spec/42_alu8.md rules R180 to R217). -/

namespace Sys2Proof.Machine

/-- The eight accumulator operations on an operand: `A` and the flags are written, and only the flags by `CP` (rules R176
to R203). -/
def accumulate (op : AluOp) (v : Byte) (s : State) : State :=
  let r := aluResult op s.regs.a v s.flags.c
  match op with
  | .CP => s.setFlags r.2
  | .ADD | .ADC | .SUB | .SBC | .AND | .XOR | .OR => (s.setReg .A r.1).setFlags r.2

/-- `x[y] <- Inc8(x[y])` (rule R206). -/
def incReg (r : Reg8) (s : State) : State :=
  (s.setReg r (inc8 (s.reg r) s.flags).1).setFlags (inc8 (s.reg r) s.flags).2

/-- `v = Read8(HL); Write8(HL, Inc8(v))` (rule R207). -/
def incHL (s : State) : State := (s.setFlags (inc8 s.readHL s.flags).2).writeHL (inc8 s.readHL s.flags).1

/-- `x[y] <- Dec8(x[y])` (rule R208). -/
def decReg (r : Reg8) (s : State) : State :=
  (s.setReg r (dec8 (s.reg r) s.flags).1).setFlags (dec8 (s.reg r) s.flags).2

/-- `v = Read8(HL); Write8(HL, Dec8(v))` (rule R209). -/
def decHL (s : State) : State := (s.setFlags (dec8 s.readHL s.flags).2).writeHL (dec8 s.readHL s.flags).1

/-- `INC B` (rule R206). -/
def execInc_B (s : State) : Result := .next (incReg .B s)

/-- `DEC B` (rule R208). -/
def execDec_B (s : State) : Result := .next (decReg .B s)

/-- `INC C` (rule R206). -/
def execInc_C (s : State) : Result := .next (incReg .C s)

/-- `DEC C` (rule R208). -/
def execDec_C (s : State) : Result := .next (decReg .C s)

/-- `INC D` (rule R206). -/
def execInc_D (s : State) : Result := .next (incReg .D s)

/-- `DEC D` (rule R208). -/
def execDec_D (s : State) : Result := .next (decReg .D s)

/-- `INC E` (rule R206). -/
def execInc_E (s : State) : Result := .next (incReg .E s)

/-- `DEC E` (rule R208). -/
def execDec_E (s : State) : Result := .next (decReg .E s)

/-- `INC H` (rule R206). -/
def execInc_H (s : State) : Result := .next (incReg .H s)

/-- `DEC H` (rule R208). -/
def execDec_H (s : State) : Result := .next (decReg .H s)

/-- `DAA` (rule R214). -/
def execDaa (s : State) : Result := .next ((s.setReg .A (daa8 s.regs.a s.flags).1).setFlags (daa8 s.regs.a s.flags).2)

/-- `INC L` (rule R206). -/
def execInc_L (s : State) : Result := .next (incReg .L s)

/-- `DEC L` (rule R208). -/
def execDec_L (s : State) : Result := .next (decReg .L s)

/-- `CPL` (rule R215). -/
def execCpl (s : State) : Result := .next ((s.setReg .A (s.regs.a ^^^ 0xFF)).setFlags { s.flags with n := true, h := true })

/-- `INC (HL)` (rule R207). -/
def execInc_atHL (s : State) : Result := .next (incHL s)

/-- `DEC (HL)` (rule R209). -/
def execDec_atHL (s : State) : Result := .next (decHL s)

/-- `SCF` (rule R216). -/
def execScf (s : State) : Result := .next (s.setFlags { s.flags with n := false, h := false, c := true })

/-- `INC A` (rule R206). -/
def execInc_A (s : State) : Result := .next (incReg .A s)

/-- `DEC A` (rule R208). -/
def execDec_A (s : State) : Result := .next (decReg .A s)

/-- `CCF` (rule R217). -/
def execCcf (s : State) : Result := .next (s.setFlags { s.flags with n := false, h := false, c := !s.flags.c })

/-- `ADD A,B` (rule R180). -/
def execAdd_A_B (s : State) : Result := .next (accumulate .ADD (s.reg .B) s)

/-- `ADD A,C` (rule R180). -/
def execAdd_A_C (s : State) : Result := .next (accumulate .ADD (s.reg .C) s)

/-- `ADD A,D` (rule R180). -/
def execAdd_A_D (s : State) : Result := .next (accumulate .ADD (s.reg .D) s)

/-- `ADD A,E` (rule R180). -/
def execAdd_A_E (s : State) : Result := .next (accumulate .ADD (s.reg .E) s)

/-- `ADD A,H` (rule R180). -/
def execAdd_A_H (s : State) : Result := .next (accumulate .ADD (s.reg .H) s)

/-- `ADD A,L` (rule R180). -/
def execAdd_A_L (s : State) : Result := .next (accumulate .ADD (s.reg .L) s)

/-- `ADD A,(HL)` (rule R181). -/
def execAdd_A_atHL (s : State) : Result := .next (accumulate .ADD s.readHL s)

/-- `ADD A,A` (rule R180). -/
def execAdd_A_A (s : State) : Result := .next (accumulate .ADD (s.reg .A) s)

/-- `ADC A,B` (rule R183). -/
def execAdc_A_B (s : State) : Result := .next (accumulate .ADC (s.reg .B) s)

/-- `ADC A,C` (rule R183). -/
def execAdc_A_C (s : State) : Result := .next (accumulate .ADC (s.reg .C) s)

/-- `ADC A,D` (rule R183). -/
def execAdc_A_D (s : State) : Result := .next (accumulate .ADC (s.reg .D) s)

/-- `ADC A,E` (rule R183). -/
def execAdc_A_E (s : State) : Result := .next (accumulate .ADC (s.reg .E) s)

/-- `ADC A,H` (rule R183). -/
def execAdc_A_H (s : State) : Result := .next (accumulate .ADC (s.reg .H) s)

/-- `ADC A,L` (rule R183). -/
def execAdc_A_L (s : State) : Result := .next (accumulate .ADC (s.reg .L) s)

/-- `ADC A,(HL)` (rule R184). -/
def execAdc_A_atHL (s : State) : Result := .next (accumulate .ADC s.readHL s)

/-- `ADC A,A` (rule R183). -/
def execAdc_A_A (s : State) : Result := .next (accumulate .ADC (s.reg .A) s)

/-- `SUB B` (rule R186). -/
def execSub_B (s : State) : Result := .next (accumulate .SUB (s.reg .B) s)

/-- `SUB C` (rule R186). -/
def execSub_C (s : State) : Result := .next (accumulate .SUB (s.reg .C) s)

/-- `SUB D` (rule R186). -/
def execSub_D (s : State) : Result := .next (accumulate .SUB (s.reg .D) s)

/-- `SUB E` (rule R186). -/
def execSub_E (s : State) : Result := .next (accumulate .SUB (s.reg .E) s)

/-- `SUB H` (rule R186). -/
def execSub_H (s : State) : Result := .next (accumulate .SUB (s.reg .H) s)

/-- `SUB L` (rule R186). -/
def execSub_L (s : State) : Result := .next (accumulate .SUB (s.reg .L) s)

/-- `SUB (HL)` (rule R187). -/
def execSub_atHL (s : State) : Result := .next (accumulate .SUB s.readHL s)

/-- `SUB A` (rule R186). -/
def execSub_A (s : State) : Result := .next (accumulate .SUB (s.reg .A) s)

/-- `SBC A,B` (rule R189). -/
def execSbc_A_B (s : State) : Result := .next (accumulate .SBC (s.reg .B) s)

/-- `SBC A,C` (rule R189). -/
def execSbc_A_C (s : State) : Result := .next (accumulate .SBC (s.reg .C) s)

/-- `SBC A,D` (rule R189). -/
def execSbc_A_D (s : State) : Result := .next (accumulate .SBC (s.reg .D) s)

/-- `SBC A,E` (rule R189). -/
def execSbc_A_E (s : State) : Result := .next (accumulate .SBC (s.reg .E) s)

/-- `SBC A,H` (rule R189). -/
def execSbc_A_H (s : State) : Result := .next (accumulate .SBC (s.reg .H) s)

/-- `SBC A,L` (rule R189). -/
def execSbc_A_L (s : State) : Result := .next (accumulate .SBC (s.reg .L) s)

/-- `SBC A,(HL)` (rule R190). -/
def execSbc_A_atHL (s : State) : Result := .next (accumulate .SBC s.readHL s)

/-- `SBC A,A` (rule R189). -/
def execSbc_A_A (s : State) : Result := .next (accumulate .SBC (s.reg .A) s)

/-- `AND B` (rule R192). -/
def execAnd_B (s : State) : Result := .next (accumulate .AND (s.reg .B) s)

/-- `AND C` (rule R192). -/
def execAnd_C (s : State) : Result := .next (accumulate .AND (s.reg .C) s)

/-- `AND D` (rule R192). -/
def execAnd_D (s : State) : Result := .next (accumulate .AND (s.reg .D) s)

/-- `AND E` (rule R192). -/
def execAnd_E (s : State) : Result := .next (accumulate .AND (s.reg .E) s)

/-- `AND H` (rule R192). -/
def execAnd_H (s : State) : Result := .next (accumulate .AND (s.reg .H) s)

/-- `AND L` (rule R192). -/
def execAnd_L (s : State) : Result := .next (accumulate .AND (s.reg .L) s)

/-- `AND (HL)` (rule R193). -/
def execAnd_atHL (s : State) : Result := .next (accumulate .AND s.readHL s)

/-- `AND A` (rule R192). -/
def execAnd_A (s : State) : Result := .next (accumulate .AND (s.reg .A) s)

/-- `XOR B` (rule R195). -/
def execXor_B (s : State) : Result := .next (accumulate .XOR (s.reg .B) s)

/-- `XOR C` (rule R195). -/
def execXor_C (s : State) : Result := .next (accumulate .XOR (s.reg .C) s)

/-- `XOR D` (rule R195). -/
def execXor_D (s : State) : Result := .next (accumulate .XOR (s.reg .D) s)

/-- `XOR E` (rule R195). -/
def execXor_E (s : State) : Result := .next (accumulate .XOR (s.reg .E) s)

/-- `XOR H` (rule R195). -/
def execXor_H (s : State) : Result := .next (accumulate .XOR (s.reg .H) s)

/-- `XOR L` (rule R195). -/
def execXor_L (s : State) : Result := .next (accumulate .XOR (s.reg .L) s)

/-- `XOR (HL)` (rule R196). -/
def execXor_atHL (s : State) : Result := .next (accumulate .XOR s.readHL s)

/-- `XOR A` (rule R195). -/
def execXor_A (s : State) : Result := .next (accumulate .XOR (s.reg .A) s)

/-- `OR B` (rule R198). -/
def execOr_B (s : State) : Result := .next (accumulate .OR (s.reg .B) s)

/-- `OR C` (rule R198). -/
def execOr_C (s : State) : Result := .next (accumulate .OR (s.reg .C) s)

/-- `OR D` (rule R198). -/
def execOr_D (s : State) : Result := .next (accumulate .OR (s.reg .D) s)

/-- `OR E` (rule R198). -/
def execOr_E (s : State) : Result := .next (accumulate .OR (s.reg .E) s)

/-- `OR H` (rule R198). -/
def execOr_H (s : State) : Result := .next (accumulate .OR (s.reg .H) s)

/-- `OR L` (rule R198). -/
def execOr_L (s : State) : Result := .next (accumulate .OR (s.reg .L) s)

/-- `OR (HL)` (rule R199). -/
def execOr_atHL (s : State) : Result := .next (accumulate .OR s.readHL s)

/-- `OR A` (rule R198). -/
def execOr_A (s : State) : Result := .next (accumulate .OR (s.reg .A) s)

/-- `CP B` (rule R201). -/
def execCp_B (s : State) : Result := .next (accumulate .CP (s.reg .B) s)

/-- `CP C` (rule R201). -/
def execCp_C (s : State) : Result := .next (accumulate .CP (s.reg .C) s)

/-- `CP D` (rule R201). -/
def execCp_D (s : State) : Result := .next (accumulate .CP (s.reg .D) s)

/-- `CP E` (rule R201). -/
def execCp_E (s : State) : Result := .next (accumulate .CP (s.reg .E) s)

/-- `CP H` (rule R201). -/
def execCp_H (s : State) : Result := .next (accumulate .CP (s.reg .H) s)

/-- `CP L` (rule R201). -/
def execCp_L (s : State) : Result := .next (accumulate .CP (s.reg .L) s)

/-- `CP (HL)` (rule R202). -/
def execCp_atHL (s : State) : Result := .next (accumulate .CP s.readHL s)

/-- `CP A` (rule R201). -/
def execCp_A (s : State) : Result := .next (accumulate .CP (s.reg .A) s)

/-- `ADD A,n` (rule R182). -/
def execAdd_A_n (n : Byte) (s : State) : Result := .next (accumulate .ADD n s)

/-- `ADC A,n` (rule R185). -/
def execAdc_A_n (n : Byte) (s : State) : Result := .next (accumulate .ADC n s)

/-- `SUB n` (rule R188). -/
def execSub_n (n : Byte) (s : State) : Result := .next (accumulate .SUB n s)

/-- `SBC A,n` (rule R191). -/
def execSbc_A_n (n : Byte) (s : State) : Result := .next (accumulate .SBC n s)

/-- `AND n` (rule R194). -/
def execAnd_n (n : Byte) (s : State) : Result := .next (accumulate .AND n s)

/-- `XOR n` (rule R197). -/
def execXor_n (n : Byte) (s : State) : Result := .next (accumulate .XOR n s)

/-- `OR n` (rule R200). -/
def execOr_n (n : Byte) (s : State) : Result := .next (accumulate .OR n s)

/-- `CP n` (rule R203). -/
def execCp_n (n : Byte) (s : State) : Result := .next (accumulate .CP n s)

end Sys2Proof.Machine
end

