-- ==== Sys2Proof/Machine/Control.lean ====
section
/-! DEFINITION. Control transfer (spec/45_control.md rules R270 to R281). No flag is written; when a meaning runs,
`PC` is the address of the next sequential instruction. -/

namespace Sys2Proof.Machine

/-- A jump taken if a condition holds (rules R271, R274). -/
def jumpIf (cc : Cond) (target : Word) (s : State) : State := if s.cond cc then s.setPc target else s

/-- `Push16(PCn); pc <- target` (rules R275, R280). -/
def call (target : Word) (s : State) : State := (push16 s.regs.pc s).setPc target

/-- `pc <- Pop16()` (rule R277). -/
def ret (s : State) : State := (popSp s).setPc (popValue s)

/-- `zext_16(y * 8)`, the target of a restart (rule R280). -/
def restartTarget (y : Oct) : Word := BitVec.ofNat 16 (8 * y.toNat)

/-- `JR e` (rule R273). -/
def execJr_e (e : Byte) (s : State) : Result := .next (s.setPc (s.relTarget e))

/-- `JR NZ,e` (rule R274). -/
def execJr_NZ_e (e : Byte) (s : State) : Result := .next (jumpIf .NZ (s.relTarget e) s)

/-- `JR Z,e` (rule R274). -/
def execJr_Z_e (e : Byte) (s : State) : Result := .next (jumpIf .Z (s.relTarget e) s)

/-- `JR NC,e` (rule R274). -/
def execJr_NC_e (e : Byte) (s : State) : Result := .next (jumpIf .NC (s.relTarget e) s)

/-- `JR C,e` (rule R274). -/
def execJr_C_e (e : Byte) (s : State) : Result := .next (jumpIf .C (s.relTarget e) s)

/-- `RET NZ` (rule R278). -/
def execRet_NZ (s : State) : Result := .next (if s.cond .NZ then ret s else s)

/-- `JP NZ,nn` (rule R271). -/
def execJp_NZ_nn (nn : Word) (s : State) : Result := .next (jumpIf .NZ nn s)

/-- `JP nn` (rule R270). -/
def execJp_nn (nn : Word) (s : State) : Result := .next (s.setPc nn)

/-- `CALL NZ,nn` (rule R276). -/
def execCall_NZ_nn (nn : Word) (s : State) : Result := .next (if s.cond .NZ then call nn s else s)

/-- `RST 00` (rule R280). -/
def execRst_00 (s : State) : Result := .next (call (restartTarget .o0) s)

/-- `RET Z` (rule R278). -/
def execRet_Z (s : State) : Result := .next (if s.cond .Z then ret s else s)

/-- `RET` (rule R277). -/
def execRet (s : State) : Result := .next (ret s)

/-- `JP Z,nn` (rule R271). -/
def execJp_Z_nn (nn : Word) (s : State) : Result := .next (jumpIf .Z nn s)

/-- `CALL Z,nn` (rule R276). -/
def execCall_Z_nn (nn : Word) (s : State) : Result := .next (if s.cond .Z then call nn s else s)

/-- `CALL nn` (rule R275). -/
def execCall_nn (nn : Word) (s : State) : Result := .next (call nn s)

/-- `RST 08` (rule R280). -/
def execRst_08 (s : State) : Result := .next (call (restartTarget .o1) s)

/-- `RET NC` (rule R278). -/
def execRet_NC (s : State) : Result := .next (if s.cond .NC then ret s else s)

/-- `JP NC,nn` (rule R271). -/
def execJp_NC_nn (nn : Word) (s : State) : Result := .next (jumpIf .NC nn s)

/-- `CALL NC,nn` (rule R276). -/
def execCall_NC_nn (nn : Word) (s : State) : Result := .next (if s.cond .NC then call nn s else s)

/-- `RST 10` (rule R280). -/
def execRst_10 (s : State) : Result := .next (call (restartTarget .o2) s)

/-- `RET C` (rule R278). -/
def execRet_C (s : State) : Result := .next (if s.cond .C then ret s else s)

/-- `RETI` (rule R279). -/
def execReti (s : State) : Result := .next (returnFromInterrupt s)

/-- `JP C,nn` (rule R271). -/
def execJp_C_nn (nn : Word) (s : State) : Result := .next (jumpIf .C nn s)

/-- `CALL C,nn` (rule R276). -/
def execCall_C_nn (nn : Word) (s : State) : Result := .next (if s.cond .C then call nn s else s)

/-- `RST 18` (rule R280). -/
def execRst_18 (s : State) : Result := .next (call (restartTarget .o3) s)

/-- `RST 20` (rule R280). -/
def execRst_20 (s : State) : Result := .next (call (restartTarget .o4) s)

/-- `JP HL` (rule R272). -/
def execJp_HL (s : State) : Result := .next (s.setPc s.hl)

/-- `RST 28` (rule R280). -/
def execRst_28 (s : State) : Result := .next (call (restartTarget .o5) s)

/-- `RST 30` (rule R280). -/
def execRst_30 (s : State) : Result := .next (call (restartTarget .o6) s)

/-- `RST 38` (rule R280). -/
def execRst_38 (s : State) : Result := .next (call (restartTarget .o7) s)

end Sys2Proof.Machine
end

