-- ==== Sys2Proof/Machine/Load16.lean ====
section
/-! DEFINITION. 16-bit loads and the stack instructions (spec/41_load16.md rules R160 to R167). -/

namespace Sys2Proof.Machine

/-- `Write8(nn, SP[7:0]); Write8((nn + 1) mod 65536, SP[15:8])` (rule R163). -/
def storeSp (nn : Word) (s : State) : State :=
  (s.write8 nn (loByte s.regs.sp)).write8 (nn + 1) (hiByte s.regs.sp)

/-- `v = Pop16(); rp2[p] <- v` (rule R167). -/
def popPair (p : StackPair) (s : State) : State := (popSp s).setStackPair p (popValue s)

/-- `LD BC,nn` (rule R162). -/
def execLd_BC_nn (nn : Word) (s : State) : Result := .next (s.setPair .BC nn)

/-- `LD (nn),SP` (rule R163). -/
def execLd_atnn_SP (nn : Word) (s : State) : Result := .next (storeSp nn s)

/-- `LD DE,nn` (rule R162). -/
def execLd_DE_nn (nn : Word) (s : State) : Result := .next (s.setPair .DE nn)

/-- `LD HL,nn` (rule R162). -/
def execLd_HL_nn (nn : Word) (s : State) : Result := .next (s.setPair .HL nn)

/-- `LD SP,nn` (rule R162). -/
def execLd_SP_nn (nn : Word) (s : State) : Result := .next (s.setPair .SP nn)

/-- `POP BC` (rule R167). -/
def execPop_BC (s : State) : Result := .next (popPair .BC s)

/-- `PUSH BC` (rule R166). -/
def execPush_BC (s : State) : Result := .next (push16 (s.stackPair .BC) s)

/-- `POP DE` (rule R167). -/
def execPop_DE (s : State) : Result := .next (popPair .DE s)

/-- `PUSH DE` (rule R166). -/
def execPush_DE (s : State) : Result := .next (push16 (s.stackPair .DE) s)

/-- `POP HL` (rule R167). -/
def execPop_HL (s : State) : Result := .next (popPair .HL s)

/-- `PUSH HL` (rule R166). -/
def execPush_HL (s : State) : Result := .next (push16 (s.stackPair .HL) s)

/-- `POP AF` (rule R167). -/
def execPop_AF (s : State) : Result := .next (popPair .AF s)

/-- `PUSH AF` (rule R166). -/
def execPush_AF (s : State) : Result := .next (push16 (s.stackPair .AF) s)

/-- `LD HL,SP+e` (rule R165). -/
def execLd_HL_SP_e (e : Byte) (s : State) : Result := .next ((s.setHl (addSp s.regs.sp e).1).setFlags (addSp s.regs.sp e).2)

/-- `LD SP,HL` (rule R164). -/
def execLd_SP_HL (s : State) : Result := .next (s.setSp s.hl)

end Sys2Proof.Machine
end

