-- ==== Sys2Proof/Machine/Load8.lean ====
section
/-! DEFINITION. 8-bit loads (spec/40_load8.md rules R130 to R148). No load writes a flag or faults; the
`PC` already points past the instruction. -/

namespace Sys2Proof.Machine

/-- `x[y] <- x[z]` (rule R130). -/
def loadReg (d r : Reg8) (s : State) : State := s.setReg d (s.reg r)

/-- `A <- Read8(address)`, then the post-modification (rules R136 to R148). -/
def loadA (m : AddrMode) (s : State) : State := (s.setReg .A (s.read8 (.data 0) (s.effAddr m))).postModify m

/-- `Write8(address, A)`, then the post-modification (rules R137 to R148). -/
def storeA (m : AddrMode) (s : State) : State := (s.write8 (s.effAddr m) s.regs.a).postModify m

/-- `LD (BC),A` (rule R137). -/
def execLd_atBC_A (s : State) : Result := .next (storeA .bc s)

/-- `LD B,n` (rule R131). -/
def execLd_B_n (n : Byte) (s : State) : Result := .next (s.setReg .B n)

/-- `LD A,(BC)` (rule R136). -/
def execLd_A_atBC (s : State) : Result := .next (loadA .bc s)

/-- `LD C,n` (rule R131). -/
def execLd_C_n (n : Byte) (s : State) : Result := .next (s.setReg .C n)

/-- `LD (DE),A` (rule R137). -/
def execLd_atDE_A (s : State) : Result := .next (storeA .de s)

/-- `LD D,n` (rule R131). -/
def execLd_D_n (n : Byte) (s : State) : Result := .next (s.setReg .D n)

/-- `LD A,(DE)` (rule R136). -/
def execLd_A_atDE (s : State) : Result := .next (loadA .de s)

/-- `LD E,n` (rule R131). -/
def execLd_E_n (n : Byte) (s : State) : Result := .next (s.setReg .E n)

/-- `LD (HL+),A` (rule R144). -/
def execLd_atHLinc_A (s : State) : Result := .next (storeA .hlInc s)

/-- `LD H,n` (rule R131). -/
def execLd_H_n (n : Byte) (s : State) : Result := .next (s.setReg .H n)

/-- `LD A,(HL+)` (rule R145). -/
def execLd_A_atHLinc (s : State) : Result := .next (loadA .hlInc s)

/-- `LD L,n` (rule R131). -/
def execLd_L_n (n : Byte) (s : State) : Result := .next (s.setReg .L n)

/-- `LD (HL-),A` (rule R146). -/
def execLd_atHLdec_A (s : State) : Result := .next (storeA .hlDec s)

/-- `LD (HL),n` (rule R134). -/
def execLd_atHL_n (n : Byte) (s : State) : Result := .next (s.writeHL n)

/-- `LD A,(HL-)` (rule R147). -/
def execLd_A_atHLdec (s : State) : Result := .next (loadA .hlDec s)

/-- `LD A,n` (rule R131). -/
def execLd_A_n (n : Byte) (s : State) : Result := .next (s.setReg .A n)

/-- `LD B,B` (rule R130). -/
def execLd_B_B (s : State) : Result := .next (loadReg .B .B s)

/-- `LD B,C` (rule R130). -/
def execLd_B_C (s : State) : Result := .next (loadReg .B .C s)

/-- `LD B,D` (rule R130). -/
def execLd_B_D (s : State) : Result := .next (loadReg .B .D s)

/-- `LD B,E` (rule R130). -/
def execLd_B_E (s : State) : Result := .next (loadReg .B .E s)

/-- `LD B,H` (rule R130). -/
def execLd_B_H (s : State) : Result := .next (loadReg .B .H s)

/-- `LD B,L` (rule R130). -/
def execLd_B_L (s : State) : Result := .next (loadReg .B .L s)

/-- `LD B,(HL)` (rule R132). -/
def execLd_B_atHL (s : State) : Result := .next (s.setReg .B s.readHL)

/-- `LD B,A` (rule R130). -/
def execLd_B_A (s : State) : Result := .next (loadReg .B .A s)

/-- `LD C,B` (rule R130). -/
def execLd_C_B (s : State) : Result := .next (loadReg .C .B s)

/-- `LD C,C` (rule R130). -/
def execLd_C_C (s : State) : Result := .next (loadReg .C .C s)

/-- `LD C,D` (rule R130). -/
def execLd_C_D (s : State) : Result := .next (loadReg .C .D s)

/-- `LD C,E` (rule R130). -/
def execLd_C_E (s : State) : Result := .next (loadReg .C .E s)

/-- `LD C,H` (rule R130). -/
def execLd_C_H (s : State) : Result := .next (loadReg .C .H s)

/-- `LD C,L` (rule R130). -/
def execLd_C_L (s : State) : Result := .next (loadReg .C .L s)

/-- `LD C,(HL)` (rule R132). -/
def execLd_C_atHL (s : State) : Result := .next (s.setReg .C s.readHL)

/-- `LD C,A` (rule R130). -/
def execLd_C_A (s : State) : Result := .next (loadReg .C .A s)

/-- `LD D,B` (rule R130). -/
def execLd_D_B (s : State) : Result := .next (loadReg .D .B s)

/-- `LD D,C` (rule R130). -/
def execLd_D_C (s : State) : Result := .next (loadReg .D .C s)

/-- `LD D,D` (rule R130). -/
def execLd_D_D (s : State) : Result := .next (loadReg .D .D s)

/-- `LD D,E` (rule R130). -/
def execLd_D_E (s : State) : Result := .next (loadReg .D .E s)

/-- `LD D,H` (rule R130). -/
def execLd_D_H (s : State) : Result := .next (loadReg .D .H s)

/-- `LD D,L` (rule R130). -/
def execLd_D_L (s : State) : Result := .next (loadReg .D .L s)

/-- `LD D,(HL)` (rule R132). -/
def execLd_D_atHL (s : State) : Result := .next (s.setReg .D s.readHL)

/-- `LD D,A` (rule R130). -/
def execLd_D_A (s : State) : Result := .next (loadReg .D .A s)

/-- `LD E,B` (rule R130). -/
def execLd_E_B (s : State) : Result := .next (loadReg .E .B s)

/-- `LD E,C` (rule R130). -/
def execLd_E_C (s : State) : Result := .next (loadReg .E .C s)

/-- `LD E,D` (rule R130). -/
def execLd_E_D (s : State) : Result := .next (loadReg .E .D s)

/-- `LD E,E` (rule R130). -/
def execLd_E_E (s : State) : Result := .next (loadReg .E .E s)

/-- `LD E,H` (rule R130). -/
def execLd_E_H (s : State) : Result := .next (loadReg .E .H s)

/-- `LD E,L` (rule R130). -/
def execLd_E_L (s : State) : Result := .next (loadReg .E .L s)

/-- `LD E,(HL)` (rule R132). -/
def execLd_E_atHL (s : State) : Result := .next (s.setReg .E s.readHL)

/-- `LD E,A` (rule R130). -/
def execLd_E_A (s : State) : Result := .next (loadReg .E .A s)

/-- `LD H,B` (rule R130). -/
def execLd_H_B (s : State) : Result := .next (loadReg .H .B s)

/-- `LD H,C` (rule R130). -/
def execLd_H_C (s : State) : Result := .next (loadReg .H .C s)

/-- `LD H,D` (rule R130). -/
def execLd_H_D (s : State) : Result := .next (loadReg .H .D s)

/-- `LD H,E` (rule R130). -/
def execLd_H_E (s : State) : Result := .next (loadReg .H .E s)

/-- `LD H,H` (rule R130). -/
def execLd_H_H (s : State) : Result := .next (loadReg .H .H s)

/-- `LD H,L` (rule R130). -/
def execLd_H_L (s : State) : Result := .next (loadReg .H .L s)

/-- `LD H,(HL)` (rule R132). -/
def execLd_H_atHL (s : State) : Result := .next (s.setReg .H s.readHL)

/-- `LD H,A` (rule R130). -/
def execLd_H_A (s : State) : Result := .next (loadReg .H .A s)

/-- `LD L,B` (rule R130). -/
def execLd_L_B (s : State) : Result := .next (loadReg .L .B s)

/-- `LD L,C` (rule R130). -/
def execLd_L_C (s : State) : Result := .next (loadReg .L .C s)

/-- `LD L,D` (rule R130). -/
def execLd_L_D (s : State) : Result := .next (loadReg .L .D s)

/-- `LD L,E` (rule R130). -/
def execLd_L_E (s : State) : Result := .next (loadReg .L .E s)

/-- `LD L,H` (rule R130). -/
def execLd_L_H (s : State) : Result := .next (loadReg .L .H s)

/-- `LD L,L` (rule R130). -/
def execLd_L_L (s : State) : Result := .next (loadReg .L .L s)

/-- `LD L,(HL)` (rule R132). -/
def execLd_L_atHL (s : State) : Result := .next (s.setReg .L s.readHL)

/-- `LD L,A` (rule R130). -/
def execLd_L_A (s : State) : Result := .next (loadReg .L .A s)

/-- `LD (HL),B` (rule R133). -/
def execLd_atHL_B (s : State) : Result := .next (s.writeHL (s.reg .B))

/-- `LD (HL),C` (rule R133). -/
def execLd_atHL_C (s : State) : Result := .next (s.writeHL (s.reg .C))

/-- `LD (HL),D` (rule R133). -/
def execLd_atHL_D (s : State) : Result := .next (s.writeHL (s.reg .D))

/-- `LD (HL),E` (rule R133). -/
def execLd_atHL_E (s : State) : Result := .next (s.writeHL (s.reg .E))

/-- `LD (HL),H` (rule R133). -/
def execLd_atHL_H (s : State) : Result := .next (s.writeHL (s.reg .H))

/-- `LD (HL),L` (rule R133). -/
def execLd_atHL_L (s : State) : Result := .next (s.writeHL (s.reg .L))

/-- `LD (HL),A` (rule R133). -/
def execLd_atHL_A (s : State) : Result := .next (s.writeHL (s.reg .A))

/-- `LD A,B` (rule R130). -/
def execLd_A_B (s : State) : Result := .next (loadReg .A .B s)

/-- `LD A,C` (rule R130). -/
def execLd_A_C (s : State) : Result := .next (loadReg .A .C s)

/-- `LD A,D` (rule R130). -/
def execLd_A_D (s : State) : Result := .next (loadReg .A .D s)

/-- `LD A,E` (rule R130). -/
def execLd_A_E (s : State) : Result := .next (loadReg .A .E s)

/-- `LD A,H` (rule R130). -/
def execLd_A_H (s : State) : Result := .next (loadReg .A .H s)

/-- `LD A,L` (rule R130). -/
def execLd_A_L (s : State) : Result := .next (loadReg .A .L s)

/-- `LD A,(HL)` (rule R132). -/
def execLd_A_atHL (s : State) : Result := .next (s.setReg .A s.readHL)

/-- `LD A,A` (rule R130). -/
def execLd_A_A (s : State) : Result := .next (loadReg .A .A s)

/-- `LDH (n),A` (rule R141). -/
def execLdh_atn_A (n : Byte) (s : State) : Result := .next (storeA (.high n) s)

/-- `LD (C),A` (rule R143). -/
def execLd_atC_A (s : State) : Result := .next (storeA .highC s)

/-- `LD (nn),A` (rule R139). -/
def execLd_atnn_A (nn : Word) (s : State) : Result := .next (storeA (.abs nn) s)

/-- `LDH A,(n)` (rule R140). -/
def execLdh_A_atn (n : Byte) (s : State) : Result := .next (loadA (.high n) s)

/-- `LD A,(C)` (rule R142). -/
def execLd_A_atC (s : State) : Result := .next (loadA .highC s)

/-- `LD A,(nn)` (rule R138). -/
def execLd_A_atnn (nn : Word) (s : State) : Result := .next (loadA (.abs nn) s)

end Sys2Proof.Machine
end

