-- ==== Sys2Proof/WellFormed.lean ====
section
/-! DEFINITION. Which terms of `Instr` are instructions of the CORE. Every operand value is allowed by its type (all
byte and 16-bit immediates exist, rule R108), so the one term that is no instruction is the prefix byte alone. -/

namespace Sys2Proof

/-- An instruction with an encoding of its own. The prefix byte "is not an instruction of its own: prefix and second
byte are fetched in one step" (rule R102), so `prefixCb` is not well-formed: no byte string decodes to it. -/
def Instr.wellFormed (i : Instr) : Bool := decide (i ≠ .prefixCb)

end Sys2Proof
end

