-- ==== Sys2Proof/Machine/RotateBit.lean ====
section
/-! DEFINITION. Rotates, shifts and bit operations (spec/44_rotate_bit.md rules R230 to R261). -/

namespace Sys2Proof.Machine

/-- The accumulator rotates: the rotate of `A`, `Z` cleared (rules R231 to R234). -/
def rotAcc (op : RotOp) (s : State) : State :=
  let r := rotate op s.regs.a s.flags.c
  (s.setReg .A r.1).setFlags (rotAccFlags r)

/-- The rotates and shifts of a register (rules R240 to R254). -/
def rotReg (op : RotOp) (x : Reg8) (s : State) : State :=
  let r := rotate op (s.reg x) s.flags.c
  (s.setReg x r.1).setFlags (rotFlags r)

/-- The rotates and shifts of the byte at `HL`: one read, then one write (rules R241 to R255). -/
def rotHL (op : RotOp) (s : State) : State :=
  let r := rotate op s.readHL s.flags.c
  (s.setFlags (rotFlags r)).writeHL r.1

/-- `BIT b,r` (rule R256). -/
def testBitReg (b : Oct) (x : Reg8) (s : State) : State := s.setFlags (bitFlags b (s.reg x) s.flags)

/-- `BIT b,(HL)` (rule R257). -/
def testBitHL (b : Oct) (s : State) : State := s.setFlags (bitFlags b s.readHL s.flags)

/-- `RES b,r` (rule R258). -/
def resBitReg (b : Oct) (x : Reg8) (s : State) : State := s.setReg x (resetBit b (s.reg x))

/-- `RES b,(HL)`: the write happens also when the bit was already clear (rule R259). -/
def resBitHL (b : Oct) (s : State) : State := s.writeHL (resetBit b s.readHL)

/-- `SET b,r` (rule R260). -/
def putBitReg (b : Oct) (x : Reg8) (s : State) : State := s.setReg x (setBit b (s.reg x))

/-- `SET b,(HL)` (rule R261). -/
def putBitHL (b : Oct) (s : State) : State := s.writeHL (setBit b s.readHL)

/-- `RLCA` (rule R231). -/
def execRlca (s : State) : Result := .next (rotAcc .RLC s)

/-- `RRCA` (rule R232). -/
def execRrca (s : State) : Result := .next (rotAcc .RRC s)

/-- `RLA` (rule R233). -/
def execRla (s : State) : Result := .next (rotAcc .RL s)

/-- `RRA` (rule R234). -/
def execRra (s : State) : Result := .next (rotAcc .RR s)

/-- `RLC B` (rule R240). -/
def execRlc_B (s : State) : Result := .next (rotReg .RLC .B s)

/-- `RLC C` (rule R240). -/
def execRlc_C (s : State) : Result := .next (rotReg .RLC .C s)

/-- `RLC D` (rule R240). -/
def execRlc_D (s : State) : Result := .next (rotReg .RLC .D s)

/-- `RLC E` (rule R240). -/
def execRlc_E (s : State) : Result := .next (rotReg .RLC .E s)

/-- `RLC H` (rule R240). -/
def execRlc_H (s : State) : Result := .next (rotReg .RLC .H s)

/-- `RLC L` (rule R240). -/
def execRlc_L (s : State) : Result := .next (rotReg .RLC .L s)

/-- `RLC (HL)` (rule R241). -/
def execRlc_atHL (s : State) : Result := .next (rotHL .RLC s)

/-- `RLC A` (rule R240). -/
def execRlc_A (s : State) : Result := .next (rotReg .RLC .A s)

/-- `RRC B` (rule R242). -/
def execRrc_B (s : State) : Result := .next (rotReg .RRC .B s)

/-- `RRC C` (rule R242). -/
def execRrc_C (s : State) : Result := .next (rotReg .RRC .C s)

/-- `RRC D` (rule R242). -/
def execRrc_D (s : State) : Result := .next (rotReg .RRC .D s)

/-- `RRC E` (rule R242). -/
def execRrc_E (s : State) : Result := .next (rotReg .RRC .E s)

/-- `RRC H` (rule R242). -/
def execRrc_H (s : State) : Result := .next (rotReg .RRC .H s)

/-- `RRC L` (rule R242). -/
def execRrc_L (s : State) : Result := .next (rotReg .RRC .L s)

/-- `RRC (HL)` (rule R243). -/
def execRrc_atHL (s : State) : Result := .next (rotHL .RRC s)

/-- `RRC A` (rule R242). -/
def execRrc_A (s : State) : Result := .next (rotReg .RRC .A s)

/-- `RL B` (rule R244). -/
def execRl_B (s : State) : Result := .next (rotReg .RL .B s)

/-- `RL C` (rule R244). -/
def execRl_C (s : State) : Result := .next (rotReg .RL .C s)

/-- `RL D` (rule R244). -/
def execRl_D (s : State) : Result := .next (rotReg .RL .D s)

/-- `RL E` (rule R244). -/
def execRl_E (s : State) : Result := .next (rotReg .RL .E s)

/-- `RL H` (rule R244). -/
def execRl_H (s : State) : Result := .next (rotReg .RL .H s)

/-- `RL L` (rule R244). -/
def execRl_L (s : State) : Result := .next (rotReg .RL .L s)

/-- `RL (HL)` (rule R245). -/
def execRl_atHL (s : State) : Result := .next (rotHL .RL s)

/-- `RL A` (rule R244). -/
def execRl_A (s : State) : Result := .next (rotReg .RL .A s)

/-- `RR B` (rule R246). -/
def execRr_B (s : State) : Result := .next (rotReg .RR .B s)

/-- `RR C` (rule R246). -/
def execRr_C (s : State) : Result := .next (rotReg .RR .C s)

/-- `RR D` (rule R246). -/
def execRr_D (s : State) : Result := .next (rotReg .RR .D s)

/-- `RR E` (rule R246). -/
def execRr_E (s : State) : Result := .next (rotReg .RR .E s)

/-- `RR H` (rule R246). -/
def execRr_H (s : State) : Result := .next (rotReg .RR .H s)

/-- `RR L` (rule R246). -/
def execRr_L (s : State) : Result := .next (rotReg .RR .L s)

/-- `RR (HL)` (rule R247). -/
def execRr_atHL (s : State) : Result := .next (rotHL .RR s)

/-- `RR A` (rule R246). -/
def execRr_A (s : State) : Result := .next (rotReg .RR .A s)

/-- `SLA B` (rule R248). -/
def execSla_B (s : State) : Result := .next (rotReg .SLA .B s)

/-- `SLA C` (rule R248). -/
def execSla_C (s : State) : Result := .next (rotReg .SLA .C s)

/-- `SLA D` (rule R248). -/
def execSla_D (s : State) : Result := .next (rotReg .SLA .D s)

/-- `SLA E` (rule R248). -/
def execSla_E (s : State) : Result := .next (rotReg .SLA .E s)

/-- `SLA H` (rule R248). -/
def execSla_H (s : State) : Result := .next (rotReg .SLA .H s)

/-- `SLA L` (rule R248). -/
def execSla_L (s : State) : Result := .next (rotReg .SLA .L s)

/-- `SLA (HL)` (rule R249). -/
def execSla_atHL (s : State) : Result := .next (rotHL .SLA s)

/-- `SLA A` (rule R248). -/
def execSla_A (s : State) : Result := .next (rotReg .SLA .A s)

/-- `SRA B` (rule R250). -/
def execSra_B (s : State) : Result := .next (rotReg .SRA .B s)

/-- `SRA C` (rule R250). -/
def execSra_C (s : State) : Result := .next (rotReg .SRA .C s)

/-- `SRA D` (rule R250). -/
def execSra_D (s : State) : Result := .next (rotReg .SRA .D s)

/-- `SRA E` (rule R250). -/
def execSra_E (s : State) : Result := .next (rotReg .SRA .E s)

/-- `SRA H` (rule R250). -/
def execSra_H (s : State) : Result := .next (rotReg .SRA .H s)

/-- `SRA L` (rule R250). -/
def execSra_L (s : State) : Result := .next (rotReg .SRA .L s)

/-- `SRA (HL)` (rule R251). -/
def execSra_atHL (s : State) : Result := .next (rotHL .SRA s)

/-- `SRA A` (rule R250). -/
def execSra_A (s : State) : Result := .next (rotReg .SRA .A s)

/-- `SWAP B` (rule R252). -/
def execSwap_B (s : State) : Result := .next (rotReg .SWAP .B s)

/-- `SWAP C` (rule R252). -/
def execSwap_C (s : State) : Result := .next (rotReg .SWAP .C s)

/-- `SWAP D` (rule R252). -/
def execSwap_D (s : State) : Result := .next (rotReg .SWAP .D s)

/-- `SWAP E` (rule R252). -/
def execSwap_E (s : State) : Result := .next (rotReg .SWAP .E s)

/-- `SWAP H` (rule R252). -/
def execSwap_H (s : State) : Result := .next (rotReg .SWAP .H s)

/-- `SWAP L` (rule R252). -/
def execSwap_L (s : State) : Result := .next (rotReg .SWAP .L s)

/-- `SWAP (HL)` (rule R253). -/
def execSwap_atHL (s : State) : Result := .next (rotHL .SWAP s)

/-- `SWAP A` (rule R252). -/
def execSwap_A (s : State) : Result := .next (rotReg .SWAP .A s)

/-- `SRL B` (rule R254). -/
def execSrl_B (s : State) : Result := .next (rotReg .SRL .B s)

/-- `SRL C` (rule R254). -/
def execSrl_C (s : State) : Result := .next (rotReg .SRL .C s)

/-- `SRL D` (rule R254). -/
def execSrl_D (s : State) : Result := .next (rotReg .SRL .D s)

/-- `SRL E` (rule R254). -/
def execSrl_E (s : State) : Result := .next (rotReg .SRL .E s)

/-- `SRL H` (rule R254). -/
def execSrl_H (s : State) : Result := .next (rotReg .SRL .H s)

/-- `SRL L` (rule R254). -/
def execSrl_L (s : State) : Result := .next (rotReg .SRL .L s)

/-- `SRL (HL)` (rule R255). -/
def execSrl_atHL (s : State) : Result := .next (rotHL .SRL s)

/-- `SRL A` (rule R254). -/
def execSrl_A (s : State) : Result := .next (rotReg .SRL .A s)

/-- `BIT 0,B` (rule R256). -/
def execBit_0_B (s : State) : Result := .next (testBitReg .o0 .B s)

/-- `BIT 0,C` (rule R256). -/
def execBit_0_C (s : State) : Result := .next (testBitReg .o0 .C s)

/-- `BIT 0,D` (rule R256). -/
def execBit_0_D (s : State) : Result := .next (testBitReg .o0 .D s)

/-- `BIT 0,E` (rule R256). -/
def execBit_0_E (s : State) : Result := .next (testBitReg .o0 .E s)

/-- `BIT 0,H` (rule R256). -/
def execBit_0_H (s : State) : Result := .next (testBitReg .o0 .H s)

/-- `BIT 0,L` (rule R256). -/
def execBit_0_L (s : State) : Result := .next (testBitReg .o0 .L s)

/-- `BIT 0,(HL)` (rule R257). -/
def execBit_0_atHL (s : State) : Result := .next (testBitHL .o0 s)

/-- `BIT 0,A` (rule R256). -/
def execBit_0_A (s : State) : Result := .next (testBitReg .o0 .A s)

/-- `BIT 1,B` (rule R256). -/
def execBit_1_B (s : State) : Result := .next (testBitReg .o1 .B s)

/-- `BIT 1,C` (rule R256). -/
def execBit_1_C (s : State) : Result := .next (testBitReg .o1 .C s)

/-- `BIT 1,D` (rule R256). -/
def execBit_1_D (s : State) : Result := .next (testBitReg .o1 .D s)

/-- `BIT 1,E` (rule R256). -/
def execBit_1_E (s : State) : Result := .next (testBitReg .o1 .E s)

/-- `BIT 1,H` (rule R256). -/
def execBit_1_H (s : State) : Result := .next (testBitReg .o1 .H s)

/-- `BIT 1,L` (rule R256). -/
def execBit_1_L (s : State) : Result := .next (testBitReg .o1 .L s)

/-- `BIT 1,(HL)` (rule R257). -/
def execBit_1_atHL (s : State) : Result := .next (testBitHL .o1 s)

/-- `BIT 1,A` (rule R256). -/
def execBit_1_A (s : State) : Result := .next (testBitReg .o1 .A s)

/-- `BIT 2,B` (rule R256). -/
def execBit_2_B (s : State) : Result := .next (testBitReg .o2 .B s)

/-- `BIT 2,C` (rule R256). -/
def execBit_2_C (s : State) : Result := .next (testBitReg .o2 .C s)

/-- `BIT 2,D` (rule R256). -/
def execBit_2_D (s : State) : Result := .next (testBitReg .o2 .D s)

/-- `BIT 2,E` (rule R256). -/
def execBit_2_E (s : State) : Result := .next (testBitReg .o2 .E s)

/-- `BIT 2,H` (rule R256). -/
def execBit_2_H (s : State) : Result := .next (testBitReg .o2 .H s)

/-- `BIT 2,L` (rule R256). -/
def execBit_2_L (s : State) : Result := .next (testBitReg .o2 .L s)

/-- `BIT 2,(HL)` (rule R257). -/
def execBit_2_atHL (s : State) : Result := .next (testBitHL .o2 s)

/-- `BIT 2,A` (rule R256). -/
def execBit_2_A (s : State) : Result := .next (testBitReg .o2 .A s)

/-- `BIT 3,B` (rule R256). -/
def execBit_3_B (s : State) : Result := .next (testBitReg .o3 .B s)

/-- `BIT 3,C` (rule R256). -/
def execBit_3_C (s : State) : Result := .next (testBitReg .o3 .C s)

/-- `BIT 3,D` (rule R256). -/
def execBit_3_D (s : State) : Result := .next (testBitReg .o3 .D s)

/-- `BIT 3,E` (rule R256). -/
def execBit_3_E (s : State) : Result := .next (testBitReg .o3 .E s)

/-- `BIT 3,H` (rule R256). -/
def execBit_3_H (s : State) : Result := .next (testBitReg .o3 .H s)

/-- `BIT 3,L` (rule R256). -/
def execBit_3_L (s : State) : Result := .next (testBitReg .o3 .L s)

/-- `BIT 3,(HL)` (rule R257). -/
def execBit_3_atHL (s : State) : Result := .next (testBitHL .o3 s)

/-- `BIT 3,A` (rule R256). -/
def execBit_3_A (s : State) : Result := .next (testBitReg .o3 .A s)

/-- `BIT 4,B` (rule R256). -/
def execBit_4_B (s : State) : Result := .next (testBitReg .o4 .B s)

/-- `BIT 4,C` (rule R256). -/
def execBit_4_C (s : State) : Result := .next (testBitReg .o4 .C s)

/-- `BIT 4,D` (rule R256). -/
def execBit_4_D (s : State) : Result := .next (testBitReg .o4 .D s)

/-- `BIT 4,E` (rule R256). -/
def execBit_4_E (s : State) : Result := .next (testBitReg .o4 .E s)

/-- `BIT 4,H` (rule R256). -/
def execBit_4_H (s : State) : Result := .next (testBitReg .o4 .H s)

/-- `BIT 4,L` (rule R256). -/
def execBit_4_L (s : State) : Result := .next (testBitReg .o4 .L s)

/-- `BIT 4,(HL)` (rule R257). -/
def execBit_4_atHL (s : State) : Result := .next (testBitHL .o4 s)

/-- `BIT 4,A` (rule R256). -/
def execBit_4_A (s : State) : Result := .next (testBitReg .o4 .A s)

/-- `BIT 5,B` (rule R256). -/
def execBit_5_B (s : State) : Result := .next (testBitReg .o5 .B s)

/-- `BIT 5,C` (rule R256). -/
def execBit_5_C (s : State) : Result := .next (testBitReg .o5 .C s)

/-- `BIT 5,D` (rule R256). -/
def execBit_5_D (s : State) : Result := .next (testBitReg .o5 .D s)

/-- `BIT 5,E` (rule R256). -/
def execBit_5_E (s : State) : Result := .next (testBitReg .o5 .E s)

/-- `BIT 5,H` (rule R256). -/
def execBit_5_H (s : State) : Result := .next (testBitReg .o5 .H s)

/-- `BIT 5,L` (rule R256). -/
def execBit_5_L (s : State) : Result := .next (testBitReg .o5 .L s)

/-- `BIT 5,(HL)` (rule R257). -/
def execBit_5_atHL (s : State) : Result := .next (testBitHL .o5 s)

/-- `BIT 5,A` (rule R256). -/
def execBit_5_A (s : State) : Result := .next (testBitReg .o5 .A s)

/-- `BIT 6,B` (rule R256). -/
def execBit_6_B (s : State) : Result := .next (testBitReg .o6 .B s)

/-- `BIT 6,C` (rule R256). -/
def execBit_6_C (s : State) : Result := .next (testBitReg .o6 .C s)

/-- `BIT 6,D` (rule R256). -/
def execBit_6_D (s : State) : Result := .next (testBitReg .o6 .D s)

/-- `BIT 6,E` (rule R256). -/
def execBit_6_E (s : State) : Result := .next (testBitReg .o6 .E s)

/-- `BIT 6,H` (rule R256). -/
def execBit_6_H (s : State) : Result := .next (testBitReg .o6 .H s)

/-- `BIT 6,L` (rule R256). -/
def execBit_6_L (s : State) : Result := .next (testBitReg .o6 .L s)

/-- `BIT 6,(HL)` (rule R257). -/
def execBit_6_atHL (s : State) : Result := .next (testBitHL .o6 s)

/-- `BIT 6,A` (rule R256). -/
def execBit_6_A (s : State) : Result := .next (testBitReg .o6 .A s)

/-- `BIT 7,B` (rule R256). -/
def execBit_7_B (s : State) : Result := .next (testBitReg .o7 .B s)

/-- `BIT 7,C` (rule R256). -/
def execBit_7_C (s : State) : Result := .next (testBitReg .o7 .C s)

/-- `BIT 7,D` (rule R256). -/
def execBit_7_D (s : State) : Result := .next (testBitReg .o7 .D s)

/-- `BIT 7,E` (rule R256). -/
def execBit_7_E (s : State) : Result := .next (testBitReg .o7 .E s)

/-- `BIT 7,H` (rule R256). -/
def execBit_7_H (s : State) : Result := .next (testBitReg .o7 .H s)

/-- `BIT 7,L` (rule R256). -/
def execBit_7_L (s : State) : Result := .next (testBitReg .o7 .L s)

/-- `BIT 7,(HL)` (rule R257). -/
def execBit_7_atHL (s : State) : Result := .next (testBitHL .o7 s)

/-- `BIT 7,A` (rule R256). -/
def execBit_7_A (s : State) : Result := .next (testBitReg .o7 .A s)

/-- `RES 0,B` (rule R258). -/
def execRes_0_B (s : State) : Result := .next (resBitReg .o0 .B s)

/-- `RES 0,C` (rule R258). -/
def execRes_0_C (s : State) : Result := .next (resBitReg .o0 .C s)

/-- `RES 0,D` (rule R258). -/
def execRes_0_D (s : State) : Result := .next (resBitReg .o0 .D s)

/-- `RES 0,E` (rule R258). -/
def execRes_0_E (s : State) : Result := .next (resBitReg .o0 .E s)

/-- `RES 0,H` (rule R258). -/
def execRes_0_H (s : State) : Result := .next (resBitReg .o0 .H s)

/-- `RES 0,L` (rule R258). -/
def execRes_0_L (s : State) : Result := .next (resBitReg .o0 .L s)

/-- `RES 0,(HL)` (rule R259). -/
def execRes_0_atHL (s : State) : Result := .next (resBitHL .o0 s)

/-- `RES 0,A` (rule R258). -/
def execRes_0_A (s : State) : Result := .next (resBitReg .o0 .A s)

/-- `RES 1,B` (rule R258). -/
def execRes_1_B (s : State) : Result := .next (resBitReg .o1 .B s)

/-- `RES 1,C` (rule R258). -/
def execRes_1_C (s : State) : Result := .next (resBitReg .o1 .C s)

/-- `RES 1,D` (rule R258). -/
def execRes_1_D (s : State) : Result := .next (resBitReg .o1 .D s)

/-- `RES 1,E` (rule R258). -/
def execRes_1_E (s : State) : Result := .next (resBitReg .o1 .E s)

/-- `RES 1,H` (rule R258). -/
def execRes_1_H (s : State) : Result := .next (resBitReg .o1 .H s)

/-- `RES 1,L` (rule R258). -/
def execRes_1_L (s : State) : Result := .next (resBitReg .o1 .L s)

/-- `RES 1,(HL)` (rule R259). -/
def execRes_1_atHL (s : State) : Result := .next (resBitHL .o1 s)

/-- `RES 1,A` (rule R258). -/
def execRes_1_A (s : State) : Result := .next (resBitReg .o1 .A s)

/-- `RES 2,B` (rule R258). -/
def execRes_2_B (s : State) : Result := .next (resBitReg .o2 .B s)

/-- `RES 2,C` (rule R258). -/
def execRes_2_C (s : State) : Result := .next (resBitReg .o2 .C s)

/-- `RES 2,D` (rule R258). -/
def execRes_2_D (s : State) : Result := .next (resBitReg .o2 .D s)

/-- `RES 2,E` (rule R258). -/
def execRes_2_E (s : State) : Result := .next (resBitReg .o2 .E s)

/-- `RES 2,H` (rule R258). -/
def execRes_2_H (s : State) : Result := .next (resBitReg .o2 .H s)

/-- `RES 2,L` (rule R258). -/
def execRes_2_L (s : State) : Result := .next (resBitReg .o2 .L s)

/-- `RES 2,(HL)` (rule R259). -/
def execRes_2_atHL (s : State) : Result := .next (resBitHL .o2 s)

/-- `RES 2,A` (rule R258). -/
def execRes_2_A (s : State) : Result := .next (resBitReg .o2 .A s)

/-- `RES 3,B` (rule R258). -/
def execRes_3_B (s : State) : Result := .next (resBitReg .o3 .B s)

/-- `RES 3,C` (rule R258). -/
def execRes_3_C (s : State) : Result := .next (resBitReg .o3 .C s)

/-- `RES 3,D` (rule R258). -/
def execRes_3_D (s : State) : Result := .next (resBitReg .o3 .D s)

/-- `RES 3,E` (rule R258). -/
def execRes_3_E (s : State) : Result := .next (resBitReg .o3 .E s)

/-- `RES 3,H` (rule R258). -/
def execRes_3_H (s : State) : Result := .next (resBitReg .o3 .H s)

/-- `RES 3,L` (rule R258). -/
def execRes_3_L (s : State) : Result := .next (resBitReg .o3 .L s)

/-- `RES 3,(HL)` (rule R259). -/
def execRes_3_atHL (s : State) : Result := .next (resBitHL .o3 s)

/-- `RES 3,A` (rule R258). -/
def execRes_3_A (s : State) : Result := .next (resBitReg .o3 .A s)

/-- `RES 4,B` (rule R258). -/
def execRes_4_B (s : State) : Result := .next (resBitReg .o4 .B s)

/-- `RES 4,C` (rule R258). -/
def execRes_4_C (s : State) : Result := .next (resBitReg .o4 .C s)

/-- `RES 4,D` (rule R258). -/
def execRes_4_D (s : State) : Result := .next (resBitReg .o4 .D s)

/-- `RES 4,E` (rule R258). -/
def execRes_4_E (s : State) : Result := .next (resBitReg .o4 .E s)

/-- `RES 4,H` (rule R258). -/
def execRes_4_H (s : State) : Result := .next (resBitReg .o4 .H s)

/-- `RES 4,L` (rule R258). -/
def execRes_4_L (s : State) : Result := .next (resBitReg .o4 .L s)

/-- `RES 4,(HL)` (rule R259). -/
def execRes_4_atHL (s : State) : Result := .next (resBitHL .o4 s)

/-- `RES 4,A` (rule R258). -/
def execRes_4_A (s : State) : Result := .next (resBitReg .o4 .A s)

/-- `RES 5,B` (rule R258). -/
def execRes_5_B (s : State) : Result := .next (resBitReg .o5 .B s)

/-- `RES 5,C` (rule R258). -/
def execRes_5_C (s : State) : Result := .next (resBitReg .o5 .C s)

/-- `RES 5,D` (rule R258). -/
def execRes_5_D (s : State) : Result := .next (resBitReg .o5 .D s)

/-- `RES 5,E` (rule R258). -/
def execRes_5_E (s : State) : Result := .next (resBitReg .o5 .E s)

/-- `RES 5,H` (rule R258). -/
def execRes_5_H (s : State) : Result := .next (resBitReg .o5 .H s)

/-- `RES 5,L` (rule R258). -/
def execRes_5_L (s : State) : Result := .next (resBitReg .o5 .L s)

/-- `RES 5,(HL)` (rule R259). -/
def execRes_5_atHL (s : State) : Result := .next (resBitHL .o5 s)

/-- `RES 5,A` (rule R258). -/
def execRes_5_A (s : State) : Result := .next (resBitReg .o5 .A s)

/-- `RES 6,B` (rule R258). -/
def execRes_6_B (s : State) : Result := .next (resBitReg .o6 .B s)

/-- `RES 6,C` (rule R258). -/
def execRes_6_C (s : State) : Result := .next (resBitReg .o6 .C s)

/-- `RES 6,D` (rule R258). -/
def execRes_6_D (s : State) : Result := .next (resBitReg .o6 .D s)

/-- `RES 6,E` (rule R258). -/
def execRes_6_E (s : State) : Result := .next (resBitReg .o6 .E s)

/-- `RES 6,H` (rule R258). -/
def execRes_6_H (s : State) : Result := .next (resBitReg .o6 .H s)

/-- `RES 6,L` (rule R258). -/
def execRes_6_L (s : State) : Result := .next (resBitReg .o6 .L s)

/-- `RES 6,(HL)` (rule R259). -/
def execRes_6_atHL (s : State) : Result := .next (resBitHL .o6 s)

/-- `RES 6,A` (rule R258). -/
def execRes_6_A (s : State) : Result := .next (resBitReg .o6 .A s)

/-- `RES 7,B` (rule R258). -/
def execRes_7_B (s : State) : Result := .next (resBitReg .o7 .B s)

/-- `RES 7,C` (rule R258). -/
def execRes_7_C (s : State) : Result := .next (resBitReg .o7 .C s)

/-- `RES 7,D` (rule R258). -/
def execRes_7_D (s : State) : Result := .next (resBitReg .o7 .D s)

/-- `RES 7,E` (rule R258). -/
def execRes_7_E (s : State) : Result := .next (resBitReg .o7 .E s)

/-- `RES 7,H` (rule R258). -/
def execRes_7_H (s : State) : Result := .next (resBitReg .o7 .H s)

/-- `RES 7,L` (rule R258). -/
def execRes_7_L (s : State) : Result := .next (resBitReg .o7 .L s)

/-- `RES 7,(HL)` (rule R259). -/
def execRes_7_atHL (s : State) : Result := .next (resBitHL .o7 s)

/-- `RES 7,A` (rule R258). -/
def execRes_7_A (s : State) : Result := .next (resBitReg .o7 .A s)

/-- `SET 0,B` (rule R260). -/
def execSet_0_B (s : State) : Result := .next (putBitReg .o0 .B s)

/-- `SET 0,C` (rule R260). -/
def execSet_0_C (s : State) : Result := .next (putBitReg .o0 .C s)

/-- `SET 0,D` (rule R260). -/
def execSet_0_D (s : State) : Result := .next (putBitReg .o0 .D s)

/-- `SET 0,E` (rule R260). -/
def execSet_0_E (s : State) : Result := .next (putBitReg .o0 .E s)

/-- `SET 0,H` (rule R260). -/
def execSet_0_H (s : State) : Result := .next (putBitReg .o0 .H s)

/-- `SET 0,L` (rule R260). -/
def execSet_0_L (s : State) : Result := .next (putBitReg .o0 .L s)

/-- `SET 0,(HL)` (rule R261). -/
def execSet_0_atHL (s : State) : Result := .next (putBitHL .o0 s)

/-- `SET 0,A` (rule R260). -/
def execSet_0_A (s : State) : Result := .next (putBitReg .o0 .A s)

/-- `SET 1,B` (rule R260). -/
def execSet_1_B (s : State) : Result := .next (putBitReg .o1 .B s)

/-- `SET 1,C` (rule R260). -/
def execSet_1_C (s : State) : Result := .next (putBitReg .o1 .C s)

/-- `SET 1,D` (rule R260). -/
def execSet_1_D (s : State) : Result := .next (putBitReg .o1 .D s)

/-- `SET 1,E` (rule R260). -/
def execSet_1_E (s : State) : Result := .next (putBitReg .o1 .E s)

/-- `SET 1,H` (rule R260). -/
def execSet_1_H (s : State) : Result := .next (putBitReg .o1 .H s)

/-- `SET 1,L` (rule R260). -/
def execSet_1_L (s : State) : Result := .next (putBitReg .o1 .L s)

/-- `SET 1,(HL)` (rule R261). -/
def execSet_1_atHL (s : State) : Result := .next (putBitHL .o1 s)

/-- `SET 1,A` (rule R260). -/
def execSet_1_A (s : State) : Result := .next (putBitReg .o1 .A s)

/-- `SET 2,B` (rule R260). -/
def execSet_2_B (s : State) : Result := .next (putBitReg .o2 .B s)

/-- `SET 2,C` (rule R260). -/
def execSet_2_C (s : State) : Result := .next (putBitReg .o2 .C s)

/-- `SET 2,D` (rule R260). -/
def execSet_2_D (s : State) : Result := .next (putBitReg .o2 .D s)

/-- `SET 2,E` (rule R260). -/
def execSet_2_E (s : State) : Result := .next (putBitReg .o2 .E s)

/-- `SET 2,H` (rule R260). -/
def execSet_2_H (s : State) : Result := .next (putBitReg .o2 .H s)

/-- `SET 2,L` (rule R260). -/
def execSet_2_L (s : State) : Result := .next (putBitReg .o2 .L s)

/-- `SET 2,(HL)` (rule R261). -/
def execSet_2_atHL (s : State) : Result := .next (putBitHL .o2 s)

/-- `SET 2,A` (rule R260). -/
def execSet_2_A (s : State) : Result := .next (putBitReg .o2 .A s)

/-- `SET 3,B` (rule R260). -/
def execSet_3_B (s : State) : Result := .next (putBitReg .o3 .B s)

/-- `SET 3,C` (rule R260). -/
def execSet_3_C (s : State) : Result := .next (putBitReg .o3 .C s)

/-- `SET 3,D` (rule R260). -/
def execSet_3_D (s : State) : Result := .next (putBitReg .o3 .D s)

/-- `SET 3,E` (rule R260). -/
def execSet_3_E (s : State) : Result := .next (putBitReg .o3 .E s)

/-- `SET 3,H` (rule R260). -/
def execSet_3_H (s : State) : Result := .next (putBitReg .o3 .H s)

/-- `SET 3,L` (rule R260). -/
def execSet_3_L (s : State) : Result := .next (putBitReg .o3 .L s)

/-- `SET 3,(HL)` (rule R261). -/
def execSet_3_atHL (s : State) : Result := .next (putBitHL .o3 s)

/-- `SET 3,A` (rule R260). -/
def execSet_3_A (s : State) : Result := .next (putBitReg .o3 .A s)

/-- `SET 4,B` (rule R260). -/
def execSet_4_B (s : State) : Result := .next (putBitReg .o4 .B s)

/-- `SET 4,C` (rule R260). -/
def execSet_4_C (s : State) : Result := .next (putBitReg .o4 .C s)

/-- `SET 4,D` (rule R260). -/
def execSet_4_D (s : State) : Result := .next (putBitReg .o4 .D s)

/-- `SET 4,E` (rule R260). -/
def execSet_4_E (s : State) : Result := .next (putBitReg .o4 .E s)

/-- `SET 4,H` (rule R260). -/
def execSet_4_H (s : State) : Result := .next (putBitReg .o4 .H s)

/-- `SET 4,L` (rule R260). -/
def execSet_4_L (s : State) : Result := .next (putBitReg .o4 .L s)

/-- `SET 4,(HL)` (rule R261). -/
def execSet_4_atHL (s : State) : Result := .next (putBitHL .o4 s)

/-- `SET 4,A` (rule R260). -/
def execSet_4_A (s : State) : Result := .next (putBitReg .o4 .A s)

/-- `SET 5,B` (rule R260). -/
def execSet_5_B (s : State) : Result := .next (putBitReg .o5 .B s)

/-- `SET 5,C` (rule R260). -/
def execSet_5_C (s : State) : Result := .next (putBitReg .o5 .C s)

/-- `SET 5,D` (rule R260). -/
def execSet_5_D (s : State) : Result := .next (putBitReg .o5 .D s)

/-- `SET 5,E` (rule R260). -/
def execSet_5_E (s : State) : Result := .next (putBitReg .o5 .E s)

/-- `SET 5,H` (rule R260). -/
def execSet_5_H (s : State) : Result := .next (putBitReg .o5 .H s)

/-- `SET 5,L` (rule R260). -/
def execSet_5_L (s : State) : Result := .next (putBitReg .o5 .L s)

/-- `SET 5,(HL)` (rule R261). -/
def execSet_5_atHL (s : State) : Result := .next (putBitHL .o5 s)

/-- `SET 5,A` (rule R260). -/
def execSet_5_A (s : State) : Result := .next (putBitReg .o5 .A s)

/-- `SET 6,B` (rule R260). -/
def execSet_6_B (s : State) : Result := .next (putBitReg .o6 .B s)

/-- `SET 6,C` (rule R260). -/
def execSet_6_C (s : State) : Result := .next (putBitReg .o6 .C s)

/-- `SET 6,D` (rule R260). -/
def execSet_6_D (s : State) : Result := .next (putBitReg .o6 .D s)

/-- `SET 6,E` (rule R260). -/
def execSet_6_E (s : State) : Result := .next (putBitReg .o6 .E s)

/-- `SET 6,H` (rule R260). -/
def execSet_6_H (s : State) : Result := .next (putBitReg .o6 .H s)

/-- `SET 6,L` (rule R260). -/
def execSet_6_L (s : State) : Result := .next (putBitReg .o6 .L s)

/-- `SET 6,(HL)` (rule R261). -/
def execSet_6_atHL (s : State) : Result := .next (putBitHL .o6 s)

/-- `SET 6,A` (rule R260). -/
def execSet_6_A (s : State) : Result := .next (putBitReg .o6 .A s)

/-- `SET 7,B` (rule R260). -/
def execSet_7_B (s : State) : Result := .next (putBitReg .o7 .B s)

/-- `SET 7,C` (rule R260). -/
def execSet_7_C (s : State) : Result := .next (putBitReg .o7 .C s)

/-- `SET 7,D` (rule R260). -/
def execSet_7_D (s : State) : Result := .next (putBitReg .o7 .D s)

/-- `SET 7,E` (rule R260). -/
def execSet_7_E (s : State) : Result := .next (putBitReg .o7 .E s)

/-- `SET 7,H` (rule R260). -/
def execSet_7_H (s : State) : Result := .next (putBitReg .o7 .H s)

/-- `SET 7,L` (rule R260). -/
def execSet_7_L (s : State) : Result := .next (putBitReg .o7 .L s)

/-- `SET 7,(HL)` (rule R261). -/
def execSet_7_atHL (s : State) : Result := .next (putBitHL .o7 s)

/-- `SET 7,A` (rule R260). -/
def execSet_7_A (s : State) : Result := .next (putBitReg .o7 .A s)

end Sys2Proof.Machine
end

