-- ==== Sys2Proof/Machine/System.lean ====
section
/-! DEFINITION. System instructions (spec/46_system.md rules R290 to R296), the illegal opcodes and the prefix byte. No flag
is written and nothing is privileged. -/

namespace Sys2Proof.Machine

/-- `STOP`: the operand byte is "fetched and ignored" and "nothing else changes" (rule R292; log entry 8). -/
def ignoreByte (_n : Byte) (s : State) : State := s

/-- The operation `EXT[op2]`, by the fields of the extended opcode (rule R111). -/
def runExtended (op2 : Byte) (s : State) : State :=
  match fieldX op2, operandOf (fieldZ op2) with
  | 0, some r => rotReg (rotOf (fieldY op2)) r s
  | 0, none => rotHL (rotOf (fieldY op2)) s
  | 1, some r => testBitReg (octOf (fieldY op2)) r s
  | 1, none => testBitHL (octOf (fieldY op2)) s
  | 2, some r => resBitReg (octOf (fieldY op2)) r s
  | 2, none => resBitHL (octOf (fieldY op2)) s
  | _, some r => putBitReg (octOf (fieldY op2)) r s
  | _, none => putBitHL (octOf (fieldY op2)) s

/-- What the prefix byte does when it is taken alone (rules R101, R102): `op2 = Fetch8()`, then `EXT[op2]` (log entry
9). -/
def runPrefixed (s : State) : State :=
  runExtended (s.read8 (.fetch 1) s.regs.pc) (s.setPc (s.regs.pc + 1))

/-- `NOP` (rule R290). -/
def execNop (s : State) : Result := .next (s)

/-- `STOP` (rule R292). -/
def execStop (n : Byte) (s : State) : Result := .next (ignoreByte n s)

/-- `HALT` (rule R291). -/
def execHalt (s : State) : Result := .next (s.setRun .halted)

/-- `PREFIX CB`: the second byte is fetched and the operation it selects in the extended table runs (rules R101, R102, R111). -/
def execPrefixCb (s : State) : Result := .next (runPrefixed s)

/-- `ILLEGAL` (rule R296). -/
def execIllegal_D3 (s : State) : Result := .next (raiseDecodeFault 0xD3 s)

/-- `ILLEGAL` (rule R296). -/
def execIllegal_DB (s : State) : Result := .next (raiseDecodeFault 0xDB s)

/-- `ILLEGAL` (rule R296). -/
def execIllegal_DD (s : State) : Result := .next (raiseDecodeFault 0xDD s)

/-- `ILLEGAL` (rule R296). -/
def execIllegal_E3 (s : State) : Result := .next (raiseDecodeFault 0xE3 s)

/-- `ILLEGAL` (rule R296). -/
def execIllegal_E4 (s : State) : Result := .next (raiseDecodeFault 0xE4 s)

/-- `ILLEGAL` (rule R296). -/
def execIllegal_EB (s : State) : Result := .next (raiseDecodeFault 0xEB s)

/-- `ILLEGAL` (rule R296). -/
def execIllegal_EC (s : State) : Result := .next (raiseDecodeFault 0xEC s)

/-- `ILLEGAL` (rule R296). -/
def execIllegal_ED (s : State) : Result := .next (raiseDecodeFault 0xED s)

/-- `DI` (rule R293). -/
def execDi (s : State) : Result := .next ((s.setIme false).setImePending false)

/-- `ILLEGAL` (rule R296). -/
def execIllegal_F4 (s : State) : Result := .next (raiseDecodeFault 0xF4 s)

/-- `EI` (rule R294). -/
def execEi (s : State) : Result := .next ((s.setIme true).setImePending true)

/-- `ILLEGAL` (rule R296). -/
def execIllegal_FC (s : State) : Result := .next (raiseDecodeFault 0xFC s)

/-- `ILLEGAL` (rule R296). -/
def execIllegal_FD (s : State) : Result := .next (raiseDecodeFault 0xFD s)

end Sys2Proof.Machine
end

