-- ==== Sys2Proof/Machine/Cycles.lean ====
section
/-! DEFINITION. The cycle cost of an instruction (rules R112, R113). Costs are functional: the timer and the graphics
engine are driven by them (rules R5, R413). -/

namespace Sys2Proof.Machine

/-- Base costs of the base table, one row per high nibble of the opcode (rule R113). The prefix byte and the illegal
opcodes have no cost: 0 stands in their places and is never used. -/
def baseCostRows : List (List Nat) :=
  [[4, 12, 8, 8, 4, 4, 8, 4, 20, 8, 8, 8, 4, 4, 8, 4],
   [4, 12, 8, 8, 4, 4, 8, 4, 12, 8, 8, 8, 4, 4, 8, 4],
   [12, 12, 8, 8, 4, 4, 8, 4, 12, 8, 8, 8, 4, 4, 8, 4],
   [12, 12, 8, 8, 12, 12, 12, 4, 12, 8, 8, 8, 4, 4, 8, 4],
   [4, 4, 4, 4, 4, 4, 8, 4, 4, 4, 4, 4, 4, 4, 8, 4],
   [4, 4, 4, 4, 4, 4, 8, 4, 4, 4, 4, 4, 4, 4, 8, 4],
   [4, 4, 4, 4, 4, 4, 8, 4, 4, 4, 4, 4, 4, 4, 8, 4],
   [8, 8, 8, 8, 8, 8, 4, 8, 4, 4, 4, 4, 4, 4, 8, 4],
   [4, 4, 4, 4, 4, 4, 8, 4, 4, 4, 4, 4, 4, 4, 8, 4],
   [4, 4, 4, 4, 4, 4, 8, 4, 4, 4, 4, 4, 4, 4, 8, 4],
   [4, 4, 4, 4, 4, 4, 8, 4, 4, 4, 4, 4, 4, 4, 8, 4],
   [4, 4, 4, 4, 4, 4, 8, 4, 4, 4, 4, 4, 4, 4, 8, 4],
   [20, 12, 16, 16, 24, 16, 8, 16, 20, 16, 16, 0, 24, 24, 8, 16],
   [20, 12, 16, 0, 24, 16, 8, 16, 20, 16, 16, 0, 24, 0, 8, 16],
   [12, 12, 8, 0, 0, 16, 8, 16, 16, 4, 16, 0, 0, 0, 8, 16],
   [12, 12, 8, 4, 0, 16, 8, 16, 12, 8, 16, 4, 0, 0, 8, 16]]

/-- The base cost of `BASE[op]` (rules R112, R113). -/
def baseCost (op : Byte) : Nat :=
  ((baseCostRows.drop (op.toNat / 16)).headD []).drop (op.toNat % 16) |>.headD 0

/-- The condition and the alternate cost of a conditional control transfer: `JR cc,e` 8, `RET cc` 8, `JP cc,nn` 12,
`CALL cc,nn` 12 (rule R113). -/
def alternateCost (op : Byte) : Option (Cond × Nat) :=
  match fieldX op, fieldZ op with
  | 0, 0 => if 4 ≤ (fieldY op).toNat then some (condOf (fieldY op), 8) else none
  | 3, 0 => if (fieldY op).toNat ≤ 3 then some (condOf (fieldY op), 8) else none
  | 3, 2 => if (fieldY op).toNat ≤ 3 then some (condOf (fieldY op), 12) else none
  | 3, 4 => if (fieldY op).toNat ≤ 3 then some (condOf (fieldY op), 12) else none
  | _, _ => none

/-- The cost of `EXT[op2]`, the prefix included: 8 on a register, 12 for `BIT b,(HL)`, 16 for the others on `(HL)`
(rule R113). -/
def extendedCost (op2 : Byte) : Nat :=
  match operandOf (fieldZ op2) with
  | some _ => 8
  | none => if fieldX op2 = 1 then 12 else 16

/-- The cost an instruction with these bytes returns from a state: the alternate cost for a conditional control transfer
that is not taken, else the base cost (rule R112). -/
def encodedCost (bytes : List Byte) (s : State) : Nat :=
  match bytes with
  | [] => 0
  | op :: rest =>
    if op = prefixByte then
      match rest with
      | [] => 0
      | op2 :: _ => extendedCost op2
    else
      match alternateCost op with
      | some (cc, alt) => if s.cond cc then baseCost op else alt
      | none => baseCost op

/-- The cycle cost of an instruction from a state (rule R112). -/
def instrCycles (i : Instr) (s : State) : Nat := encodedCost (encode i) s

end Sys2Proof.Machine
end

