-- ==== Sys2Proof/Machine/Fetch.lean ====
section
/-! DEFINITION. The parts of a step around the instruction (rules R101, R300): fetching the instruction's bytes, moving
`PC` past them, and the two phases after the instruction; and the placing of an instruction where the next step fetches
it. -/

namespace Sys2Proof.Machine

/-- A step begins: the outputs are this step's, and its reads are draws of its own (log entries 5, 6). -/
def beginStep (s : State) : State := { s with draws := s.draws + 1, outputs := [] }

/-- The `k`-th byte from `PC` on, the address wrapping modulo 65536: a `Read8` like any other (rules R13, R76, R101). -/
def fetchByte (k : Nat) (s : State) : Byte := s.read8 (.fetch k) (s.regs.pc + BitVec.ofNat 16 k)

/-- The instruction at `PC` (rule R101). A byte past its end is read without effect (rule R72). -/
def fetchInstr (s : State) : Instr := decodeBytes (fetchByte 0 s) (fetchByte 1 s) (fetchByte 2 s)

/-- `PC` past the instruction's bytes (rules R13, R101). -/
def afterFetch (s : State) : State := s.setPc (s.regs.pc + BitVec.ofNat 16 (instrLength (fetchByte 0 s)))

/-- Phases 2 and 3 of a step whose first phase cost `cycles`: interrupt servicing, then one broadcast of the whole count
(rules R300, R414). -/
def finishStep (cycles : Nat) (s : State) : State := broadcast (cycles + serviceCycles s) (serviceInterrupts s)

/-- The rest of a step after its instruction: nothing after a decode fault, else phases 2 and 3 (rules R300, R320). -/
def afterExec (cycles : Nat) (s : State) : State :=
  match s.run with
  | .faulted _ => s
  | .running | .halted => finishStep cycles s

/-! ## Placing an instruction -/

/-- Whether the byte a fetch reads at an address is a plain stored byte: ROM, video RAM, work RAM and its echo, `OAM`,
high RAM and its fallback. -/
def storable (a : Word) : Bool :=
  match decodeAddr a with
  | .cartridge => decide (a.toNat ≤ 0x7FFF)
  | .vram _ | .workFixed _ | .workBanked _ | .oam _ => true
  | .unusable | .interruptEnable => false
  | .io n => decide (ioReg n = .highRam)

/-- The state whose stored byte at a storable address is `v`. In the ROM window the cartridge becomes a ROM-only one whose
image has the byte: the image is loaded from outside the machine (log entry 7). -/
def placeByte (a : Word) (v : Byte) (s : State) : State :=
  match decodeAddr a with
  | .cartridge => { s with cart := .romOnly (writeCell s.cart.image a.toNat v) }
  | .vram off => s.writeMem .vram (s.vramCell off) v
  | .workFixed off => s.writeMem .wram off v
  | .workBanked off => s.writeMem .wram (s.wramCell off) v
  | .oam i => s.writeMem .oam i v
  | .unusable | .interruptEnable => s
  | .io n => s.writeMem .hram n.toNat v

/-- Whether three bytes from an address on can be placed. -/
def storable3 (a : Word) : Bool := storable a && storable (a + 1) && storable (a + 2)

/-- Three bytes placed where the next step fetches, and the machine running. Where `PC` points into registers or into a
window with no stored bytes, `PC` first moves to work RAM at `C000`. -/
def placeInstr (b : Byte × Byte × Byte) (s : State) : State :=
  let s := s.setRun .running
  let s := if storable3 s.regs.pc then s else s.setPc 0xC000
  placeByte (s.regs.pc + 2) b.2.2 (placeByte (s.regs.pc + 1) b.2.1 (placeByte s.regs.pc b.1 s))

end Sys2Proof.Machine
end

