-- ==== Sys2Proof/Machine/Step.lean ====
section
/-! DEFINITION. `MachineStep` (rule R300): the one step function of the machine. -/

namespace Sys2Proof.Machine

/-- One step (rule R300): from Faulted there is none (rule R320); a Halted step costs `HALT_STEP_CYCLES` without fetching
(rule R303); a Running step fetches, decodes and executes one instruction (rule R101). Then interrupts are serviced and
the cycle count is broadcast, unless the instruction was an illegal opcode. -/
def step (s : State) : Host.Outcome State Fault Refusal :=
  match s.run with
  | .faulted op => .fault (.decodeFault op)
  | .halted => .next (finishStep s.params.timing.haltStepCycles (beginStep s))
  | .running =>
    match exec (fetchInstr (beginStep s)) (afterFetch (beginStep s)) with
    | .next t => .next (afterExec (instrCycles (fetchInstr (beginStep s)) s) t)
    | .fault r => .fault r
    | .refused r => .refused r

/-- `s` with the instruction of an opcode-table row stored where the next step fetches its instruction. -/
def State.withFetchWord (s : State) (nbits w : Nat) : State := placeInstr (tableBytes nbits w) s

end Sys2Proof.Machine
end

