-- ==== Sys2Proof/Machine/HostActions.lean ====
section
/-! DEFINITION. What the host may do to the machine at a quiescent point, the boundary between two steps (rules R330,
R400). No step calls these: a run is a sequence of steps with host actions between them. -/

namespace Sys2Proof.Machine

/-- The host raises the joypad request, `IF[4]` (rules R66, R330). -/
def hostJoypadRequest (s : State) : State := s.request 4

/-- The host raises the serial request, `IF[3]` (rules R67, R330). -/
def hostSerialRequest (s : State) : State := s.request 3

/-- Whether two cartridges are of one type (rule R330: "different color-mode or cartridge type"). -/
def Cartridge.sameType : Cartridge → Cartridge → Bool
  | .romOnly _, .romOnly _ => true
  | .external _, .external _ => true
  | .romOnly _, .external _ => false
  | .external _, .romOnly _ => false

/-- Restoring a snapshot "replaces the whole state"; one of a differently configured core is refused (rule R330, U2). -/
def restoreSnapshot (snap s : State) : Result :=
  if snap.params = s.params ∧ snap.cart.sameType s.cart = true then .next snap else .refused .snapshotMismatch

/-- `Reset()` applied to a machine: its cartridge and its parameters stay (rule R400), and the memories are unspecified
again (rule R42). -/
def hostReset (s : State) : State := State.resetWith s.params s.cart

end Sys2Proof.Machine
end

