-- ==== Sys2Proof/Safety.lean ====
section
/-! DEFINITION. The terms in which claims are stated: the legal states (what rules R12, R18, R25, R26, R30, R32, R366, R388
say holds between steps), a run that never stops, and what "unchanged" means for the parts of a state. -/

namespace Sys2Proof.Machine

/-- The parameters of a machine in which the loops of rules R341 and R352 end and every line has a number of its own: no
budget and no period is 0, there are visible and vertical-blank lines, and `LY`, 8 bits wide (rule R25), can number them all
(DEDUCED, log entry 21). -/
structure LegalTiming (t : Timing) : Prop where
  budget : ∀ m : Mode, 1 ≤ m.budget t
  visible : 1 ≤ t.visibleLines
  vblank : 1 ≤ t.vblankLines
  lines : t.visibleLines + t.vblankLines ≤ 256
  div : 1 ≤ t.divPeriod
  tima : ∀ f : BitVec 2, 1 ≤ timaPeriod t f

/-- The cycles of one frame: the visible lines and the vertical-blank lines (rules R357, R370). -/
def frameCycles (t : Timing) : Nat :=
  t.visibleLines * (t.oamScanCycles + t.pixelCycles + t.hblankCycles) + t.vblankLines * t.lineCycles

/-- The scanline fits the mode (rules R355, R356: with the default values, modes 2, 3 and 0 in lines 0 to 143 and mode 1 in
lines 144 to 153). -/
abbrev Graphics.lineFits (t : Timing) (g : Graphics) : Prop :=
  if g.mode = .vblank then t.visibleLines ≤ g.ly.toNat ∧ g.ly.toNat ≤ lastLine t else g.ly.toNat < t.visibleLines

/-- The graphics registers between steps: the mode fits the scanline, the accumulator is below the budget while the display
is on (rule R352), and the engine is held in horizontal-blank at line 0 while it is off (rule R366). -/
structure Graphics.Legal (t : Timing) (g : Graphics) : Prop where
  line : g.lineFits t
  clock : g.lcdc.getLsbD 7 = true → g.modeClock < g.mode.budget t
  held : g.lcdc.getLsbD 7 = false → g.mode = .hblank ∧ g.ly = 0 ∧ g.modeClock = 0

/-- The timer's accumulators between steps: the divider's below its period, the counter's below the period of some rate, for
the rate may be changed while it stands (rules R342, R343, R344, R349). -/
structure Timer.Legal (p : Timing) (t : Timer) : Prop where
  divAcc : t.divAcc < p.divPeriod
  timaAcc : ∃ f : BitVec 2, t.timaAcc < timaPeriod p f

/-- The VRAM DMA between steps: at most 128 blocks in all (rule R32); while it is active `HDMA5` reads the remaining count
less one, with bit 7 clear, and else bit 7 is set (rule R388). -/
structure Dma.Legal (d : Dma) : Prop where
  total : d.block + d.remaining ≤ 128
  activeReads : d.active = true → 1 ≤ d.remaining ∧ d.hdma5 = BitVec.ofNat 8 (d.remaining - 1)
  idleReads : d.active = false → d.hdma5.getLsbD 7 = true

/-- What holds of a state also inside a step, between the phases: every memory is in canonical form and lies inside its
array, `F[3:0]` is zero (rule R12), and the parameters and the devices are legal. -/
structure CoreInv (s : State) : Prop where
  mem : ∀ r : Region, Memory.wf (regionSize r) (s.region r)
  flags : s.regs.f &&& 0x0F = 0
  params : LegalTiming s.params.timing
  gfx : s.gfx.Legal s.params.timing
  timer : s.timer.Legal s.params.timing
  dma : s.dma.Legal

/-- The invariant between steps: `CoreInv`, and `IME_PENDING` is 0, since it is 1 only "until the end of the
interrupt-servicing phase of the same step" (rules R18, R309). -/
structure Inv (s : State) : Prop where
  core : CoreInv s
  notPending : s.irq.imePending = false

/-- A safe run of `n` steps: no step stops. -/
def SafeFor (n : Nat) (s : State) : Prop := ∃ t : State, Host.Core.run Sys2Proof.core n s = .next t

/-- Where a byte an address selects is stored, if it is a plain stored byte of the CORE (video RAM, work RAM and its echo,
`OAM`, high RAM and its fallback). Two addresses with the same cell are aliases (rules R35, R59). -/
def State.cellOf (s : State) (a : Word) : Option (Region × Nat) :=
  match decodeAddr a with
  | .vram off => some (.vram, s.vramCell off)
  | .workFixed off => some (.wram, off)
  | .workBanked off => some (.wram, s.wramCell off)
  | .oam i => some (.oam, i)
  | .io n => if ioReg n = .highRam then some (.hram, n.toNat) else none
  | .cartridge | .unusable | .interruptEnable => none

/-! ## Field codes and the flag byte -/

/-- The value of the 3-bit register field (rule R104). -/
def regCode : Reg8 → BitVec 3
  | .B => 0
  | .C => 1
  | .D => 2
  | .E => 3
  | .H => 4
  | .L => 5
  | .A => 7

/-- The value of the pair field `rp` (rule R105). -/
def pairCode : Pair → BitVec 2
  | .BC => 0
  | .DE => 1
  | .HL => 2
  | .SP => 3

/-- The value of the pair field `rp2` (rule R105). -/
def stackPairCode : StackPair → BitVec 2
  | .BC => 0
  | .DE => 1
  | .HL => 2
  | .AF => 3

/-- The value of the condition field (rule R106). -/
def condCode : Cond → BitVec 2
  | .NZ => 0
  | .Z => 1
  | .NC => 2
  | .C => 3

/-- When a condition is true (rule R106), by the positions of the flags (rule R12). -/
def condHolds (f : Byte) : Cond → Bool
  | .NZ => !f.getLsbD 7
  | .Z => f.getLsbD 7
  | .NC => !f.getLsbD 4
  | .C => f.getLsbD 4

/-- The value of `y` for an accumulator operation (rule R107). -/
def aluCode : AluOp → BitVec 3
  | .ADD => 0
  | .ADC => 1
  | .SUB => 2
  | .SBC => 3
  | .AND => 4
  | .XOR => 5
  | .OR => 6
  | .CP => 7

/-- The value of `y` for a rotate or shift (rule R107). -/
def rotCode : RotOp → BitVec 3
  | .RLC => 0
  | .RRC => 1
  | .RL => 2
  | .RR => 3
  | .SLA => 4
  | .SRA => 5
  | .SWAP => 6
  | .SRL => 7

/-- The value of `y` for a bit number or a restart number (rule R108). -/
def octCode (b : Oct) : BitVec 3 := BitVec.ofNat 3 b.toNat

/-- The byte `F` with given flags: `Z` in bit 7, `N` in bit 6, `H` in bit 5, `C` in bit 4, zero below (rule R12). -/
def flagByte (z n h c : Bool) : Byte :=
  BitVec.ofNat 8 (128 * z.toNat + 64 * n.toNat + 32 * h.toNat + 16 * c.toNat)

/-- The carry flag (rule R12). -/
def State.carry (s : State) : Bool := s.regs.f.getLsbD 4

/-- The second operand of an accumulator operation, in its three forms (rule R176). -/
inductive AluForm where
  | reg (r : Reg8)
  | memory
  | immediate (n : Byte)
  deriving DecidableEq, Repr

/-- The instruction of a form (rule R176). -/
def AluForm.instr (op : AluOp) : AluForm → Instr
  | .reg r => .alu op r
  | .memory => .aluHL op
  | .immediate n => .aluImm op n

/-- The operand's value (rule R176). -/
def AluForm.value (s : State) : AluForm → Byte
  | .reg r => s.reg r
  | .memory => s.read8 (.data 0) s.hl
  | .immediate n => n

/-- The form's bytes (rule R176). -/
def AluForm.bytes (op : AluOp) : AluForm → List Byte
  | .reg r => [2#2 ++ aluCode op ++ regCode r]
  | .memory => [2#2 ++ aluCode op ++ 6#3]
  | .immediate n => [3#2 ++ aluCode op ++ 6#3, n]

/-- The form's cost (rule R176). -/
def AluForm.cost : AluForm → Nat
  | .reg _ => 4
  | .memory => 8
  | .immediate _ => 8

/-- The illegal opcode an instruction is, if it is one (rule R114). -/
def faultOpcode : Instr → Option Byte
  | .illegal_D3 => some 0xD3
  | .illegal_DB => some 0xDB
  | .illegal_DD => some 0xDD
  | .illegal_E3 => some 0xE3
  | .illegal_E4 => some 0xE4
  | .illegal_EB => some 0xEB
  | .illegal_EC => some 0xEC
  | .illegal_ED => some 0xED
  | .illegal_F4 => some 0xF4
  | .illegal_FC => some 0xFC
  | .illegal_FD => some 0xFD
  | _ => none

/-- The eleven illegal opcodes (rule R114). -/
def illegalOpcodes : List Byte := [0xD3, 0xDB, 0xDD, 0xE3, 0xE4, 0xEB, 0xEC, 0xED, 0xF4, 0xFC, 0xFD]

/-- The first bytes whose instruction has one operand byte (rule R116). -/
def oneOperandOpcodes : List Byte :=
  [0x06, 0x0E, 0x16, 0x1E, 0x26, 0x2E, 0x3E, 0x36, 0xC6, 0xCE, 0xD6, 0xDE, 0xE6, 0xEE, 0xF6, 0xFE, 0x18, 0x20, 0x28,
    0x30, 0x38, 0xE0, 0xF0, 0xE8, 0xF8, 0x10]

/-- The first bytes whose instruction has two operand bytes (rule R116). -/
def twoOperandOpcodes : List Byte :=
  [0x01, 0x11, 0x21, 0x31, 0x08, 0xFA, 0xEA, 0xC3, 0xC2, 0xCA, 0xD2, 0xDA, 0xCD, 0xC4, 0xCC, 0xD4, 0xDC]

/-- The opcodes of the control transfers (rules R270 to R280). -/
def transferOpcodes : List Byte :=
  [0xC3, 0xC2, 0xCA, 0xD2, 0xDA, 0xE9, 0x18, 0x20, 0x28, 0x30, 0x38, 0xCD, 0xC4, 0xCC, 0xD4, 0xDC, 0xC9, 0xC0, 0xC8,
    0xD0, 0xD8, 0xD9, 0xC7, 0xCF, 0xD7, 0xDF, 0xE7, 0xEF, 0xF7, 0xFF]

/-! ## The fixed forms of the accumulator loads -/

/-- The loads of `A` from memory: instruction, bytes, cost, address, and `HL` afterwards (rules R136, R138, R140, R142,
R145, R147). -/
def accumulatorLoads (s : State) (n : Byte) (nn : Word) : List (Instr × List Byte × Nat × Word × Word) :=
  [(.ld_A_atBC, [0x0A], 8, s.regs.b ++ s.regs.c, s.hl), (.ld_A_atDE, [0x1A], 8, s.regs.d ++ s.regs.e, s.hl),
    (.ld_A_atnn nn, [0xFA, nn.extractLsb' 0 8, nn.extractLsb' 8 8], 16, nn, s.hl),
    (.ldh_A_atn n, [0xF0, n], 12, 0xFF#8 ++ n, s.hl), (.ld_A_atC, [0xF2], 8, 0xFF#8 ++ s.regs.c, s.hl),
    (.ld_A_atHLinc, [0x2A], 8, s.hl, s.hl + 1), (.ld_A_atHLdec, [0x3A], 8, s.hl, s.hl - 1)]

/-- The stores of `A` to memory, likewise (rules R137, R139, R141, R143, R144, R146). -/
def accumulatorStores (s : State) (n : Byte) (nn : Word) : List (Instr × List Byte × Nat × Word × Word) :=
  [(.ld_atBC_A, [0x02], 8, s.regs.b ++ s.regs.c, s.hl), (.ld_atDE_A, [0x12], 8, s.regs.d ++ s.regs.e, s.hl),
    (.ld_atnn_A nn, [0xEA, nn.extractLsb' 0 8, nn.extractLsb' 8 8], 16, nn, s.hl),
    (.ldh_atn_A n, [0xE0, n], 12, 0xFF#8 ++ n, s.hl), (.ld_atC_A, [0xE2], 8, 0xFF#8 ++ s.regs.c, s.hl),
    (.ld_atHLinc_A, [0x22], 8, s.hl, s.hl + 1), (.ld_atHLdec_A, [0x32], 8, s.hl, s.hl - 1)]

/-! ## Frames -/

/-- Of the registers of the 3-bit field only the listed ones may differ, and everything outside the register file is
unchanged, every byte of memory included. Of `F`, `SP` and `PC` nothing is said here. -/
structure RegFrame (written : List Reg8) (s t : State) : Prop where
  regs : ∀ r, r ∉ written → t.reg r = s.reg r
  rest : t = { s with regs := t.regs }
  bytes : ∀ acc a, t.read8 acc a = s.read8 acc a

/-- `F`, `SP` and `PC` are unchanged. -/
structure KeepsFSpPc (s t : State) : Prop where
  f : t.regs.f = s.regs.f
  sp : t.regs.sp = s.regs.sp
  pc : t.regs.pc = s.regs.pc

/-- The state after a byte `v` is stored at address `a` from `s`: it is that of the bus write (rule R53), so the side
effects of an address that has some (rule R72) are in it; the registers, the run state and the interrupt gates are
unchanged; and where `a` is a plain stored byte, `a` now reads as `v`, every address that is no alias of `a` reads as
before, and nothing but memory changed. -/
structure Stored (a : Word) (v : Byte) (s t : State) : Prop where
  effect : t = s.write8 a v
  regs : t.regs = s.regs
  run : t.run = s.run
  ime : t.irq.ime = s.irq.ime
  imePending : t.irq.imePending = s.irq.imePending
  here : ∀ c, s.cellOf a = some c → ∀ acc, t.read8 acc a = v
  others : ∀ c, s.cellOf a = some c → ∀ acc b, s.cellOf b ≠ some c → t.read8 acc b = s.read8 acc b
  memoryOnly : ∀ c, s.cellOf a = some c → t = { s with mems := t.mems }

/-- The state after a 16-bit value is pushed from `s` (rule R160): `v[15:8]` is stored at `SP - 1`, then `v[7:0]` at
`SP - 2`, and `SP` is 2 lower. -/
def Pushed (v : Word) (s t : State) : Prop :=
  ∃ u, Stored (s.regs.sp - 1) (v.extractLsb' 8 8) { s with regs := { s.regs with sp := s.regs.sp - 1 } } u ∧
    Stored (s.regs.sp - 2) (v.extractLsb' 0 8) { u with regs := { u.regs with sp := u.regs.sp - 1 } } t ∧
    t.regs = { s.regs with sp := s.regs.sp - 2 }

/-- The 16-bit value on the top of the stack (rule R161): low byte at `SP`, high byte at `SP + 1`. -/
def State.stackTop (s : State) : Word := s.read8 (.data 1) (s.regs.sp + 1) ++ s.read8 (.data 0) s.regs.sp

end Sys2Proof.Machine
end

