-- ==== Sys2Proof/Certificates/Slice0/Obligations.lean ====
section
/-! DEFINITION. The statements for the provers. The rules R<n> are those of spec/. Where a statement gives bytes and a cost,
they are the instruction's encoding (spec/30_encoding.md) and the cycles its rule states. The vocabulary (`RegFrame`,
`Stored`, `Pushed`, `flagByte`, the field codes) is that of Sys2Proof/Safety.lean. -/

open Sys2Proof Sys2Proof.Machine

/-! ## Encoding -/

/-- Words written out from the spec's encodings decode to the instructions they stand for (examples of rules R130, R131,
R138, R162, R201, R223, R256, R260, R274, R276, R280, R292). -/
def Obligations.SpecWordsDecode : Prop :=
  decode [0x78] = .ok (.ld_A_B, []) ∧ decode [0x3E, 0xFF] = .ok (.ld_A_n 0xFF, []) ∧
  decode [0xFA, 0x44, 0xFF] = .ok (.ld_A_atnn 0xFF44, []) ∧ decode [0x21, 0x00, 0xC0] = .ok (.ld_HL_nn 0xC000, []) ∧
  decode [0xB8] = .ok (.cp_B, []) ∧ decode [0x29] = .ok (.add_HL_HL, []) ∧ decode [0xCB, 0x65] = .ok (.bit_4_L, []) ∧
  decode [0xCB, 0xCB] = .ok (.set_1_E, []) ∧ decode [0x20, 0xFC] = .ok (.jr_NZ_e 0xFC, []) ∧
  decode [0xDC, 0x00, 0x40] = .ok (.call_C_nn 0x4000, []) ∧ decode [0xEF] = .ok (.rst_28, []) ∧
  decode [0x10, 0x00] = .ok (.stop 0x00, [])

/-- Decoding the encoding of a well-formed instruction, whatever follows it, gives the instruction and what follows. -/
def Obligations.DecodeInvertsEncode : Prop :=
  ∀ (i : Instr) (rest : List Byte), i.wellFormed = true → decode (encode i ++ rest) = .ok (i, rest)

/-- Whatever the decoder reads is well-formed, and its encoding is the bytes that were read: each byte string has one
meaning. -/
def Obligations.EncodeInvertsDecode : Prop :=
  ∀ (bytes rest : List Byte) (i : Instr), decode bytes = .ok (i, rest) → i.wellFormed = true ∧ encode i ++ rest = bytes

/-- Rule R116: the first byte alone gives the length. -/
def Obligations.FirstByteGivesLength : Prop :=
  ∀ op b1 b2 : Byte,
    (encode (decodeBytes op b1 b2)).length =
      (if op = 0xCB then 2 else if op ∈ oneOperandOpcodes then 2 else if op ∈ twoOperandOpcodes then 3 else 1) ∧
    instrLength op = (encode (decodeBytes op b1 b2)).length

/-- The cost of every instruction that is no illegal opcode is a multiple of 4 between 4 and 24 (rules R113, R426). -/
def Obligations.CyclesBounded : Prop :=
  ∀ (i : Instr) (s : State), i.wellFormed = true → faultOpcode i = none →
    4 ≤ instrCycles i s ∧ instrCycles i s ≤ 24 ∧ instrCycles i s % 4 = 0

/-! ## The step -/

/-- Where the bytes at `PC` decode to an instruction, a Running step moves `PC` past it (rule R101), does what `exec`
says, and then, unless the instruction ended in a decode fault, services interrupts and hands the instruction's cycles and
the dispatch's, as one count, to the timer, then to the graphics engine, then to the audio collaborator, once each (rules
R300, R302). The step's own draw, its outputs beginning with it, and the audio call as the last of them are the model's (log
entries 5, 6). -/
def Obligations.StepRunsDecoded : Prop :=
  ∀ (s : State) (i : Instr) (rest : List Byte), s.run = .running →
    let s₀ : State := { s with draws := s.draws + 1, outputs := [] }
    decode [s₀.read8 (.fetch 0) s.regs.pc, s₀.read8 (.fetch 1) (s.regs.pc + 1), s₀.read8 (.fetch 2) (s.regs.pc + 2)]
        = .ok (i, rest) →
    i.wellFormed = true ∧
    step s =
      match exec i { s₀ with regs := { s.regs with pc := s.regs.pc + BitVec.ofNat 16 (encode i).length } } with
      | .next t =>
        match t.run with
        | .faulted _ => .next t
        | .running | .halted =>
          let n := instrCycles i s + serviceCycles t
          let u := graphicsStep n (timerStep n (serviceInterrupts t))
          .next { u with outputs := u.outputs ++ [.audioAdvance n] }
      | .fault r => .fault r
      | .refused r => .refused r

/-- Rule R303: a Halted step fetches nothing, changes no register and costs `HALT_STEP_CYCLES`, by default 4, and its
phases 2 and 3 run as in any step: interrupt servicing, then the whole count to the timer, the graphics engine and the audio
collaborator (rule R302; draw and outputs are the model's: log entries 5, 6). From Faulted there is no step (rule R320): the
model answers the fault (log entry 2). -/
def Obligations.StepFromHaltedOrFaulted : Prop :=
  Timing.default.haltStepCycles = 4 ∧ ∀ s : State,
    (s.run = .halted →
      let s₀ : State := { s with draws := s.draws + 1, outputs := [] }
      let n := s.params.timing.haltStepCycles + serviceCycles s₀
      let u := graphicsStep n (timerStep n (serviceInterrupts s₀))
      step s = .next { u with outputs := u.outputs ++ [.audioAdvance n] }) ∧
    ∀ op, s.run = .faulted op → step s = .fault (.decodeFault op)

/-- Nothing but the state Faulted stops a step: every address is mapped, nothing is privileged, nothing else faults (rules
R50, R321, R325, R331); and no step changes a parameter: `COLOR_MODE` "is fixed for the whole run" (rule R400). -/
def Obligations.EveryStepCompletesUnlessFaulted : Prop :=
  ∀ s : State, ((∃ t, step s = .next t) ↔ ∀ op, s.run ≠ .faulted op) ∧ ∀ t, step s = .next t → t.params = s.params

/-- Rules R114, R296: exactly the eleven illegal first bytes decode to an illegal opcode; its own effect is Faulted with
the opcode and nothing else; a step that fetches one moves `PC` by one and ends there, without servicing and broadcast
(the draw and the outputs of the step are the model's own); no later step does anything. -/
def Obligations.IllegalOpcodesFault : Prop :=
  (∀ op b1 b2 : Byte, faultOpcode (decodeBytes op b1 b2) = if op ∈ illegalOpcodes then some op else none) ∧
  (∀ (i : Instr) (op : Byte) (s : State), faultOpcode i = some op →
    encode i = [op] ∧ exec i s = .next { s with run := .faulted op }) ∧
  ∀ (s : State) (op : Byte), s.run = .running → op ∈ illegalOpcodes →
    let s₀ : State := { s with draws := s.draws + 1, outputs := [] }
    s₀.read8 (.fetch 0) s.regs.pc = op →
    ∃ t, step s = .next t ∧ t = { s₀ with regs := { s.regs with pc := s.regs.pc + 1 }, run := .faulted op } ∧
      step t = .fault (.decodeFault op)

/-- Only `EI`, `DI` and `RETI` write `IME` (rule R17), only `EI` and `DI` write `IME_PENDING` (rule R18), only `HALT` and an
illegal opcode write `RUN` (rule R19), and only the control transfers write `PC` (rule R281): the prefix byte taken alone
still has its second byte to fetch. -/
def Obligations.GatesRunStateAndPcHaveFewWriters : Prop :=
  ∀ (i : Instr) (s t : State), exec i s = .next t →
    (i ≠ .ei → i ≠ .di → i ≠ .reti → t.irq.ime = s.irq.ime) ∧
    (i ≠ .ei → i ≠ .di → t.irq.imePending = s.irq.imePending) ∧
    (i ≠ .halt → faultOpcode i = none → t.run = s.run) ∧
    ((encode i).headD 0 ∉ transferOpcodes → i ≠ .prefixCb → t.regs.pc = s.regs.pc)

/-! ## 8-bit loads -/

/-- Rules R130, R131, R132: the loads of a register from a register, an immediate and the byte at `HL`. -/
def Obligations.LoadRegisterForms : Prop :=
  ∀ (d r : Reg8) (n : Byte) (s : State),
    (encode (.ld d r) = [1#2 ++ regCode d ++ regCode r] ∧ instrCycles (.ld d r) s = 4 ∧
      ∃ t, exec (.ld d r) s = .next t ∧ t.reg d = s.reg r ∧ KeepsFSpPc s t ∧ RegFrame [d] s t) ∧
    (encode (.ldImm d n) = [0#2 ++ regCode d ++ 6#3, n] ∧ instrCycles (.ldImm d n) s = 8 ∧
      ∃ t, exec (.ldImm d n) s = .next t ∧ t.reg d = n ∧ KeepsFSpPc s t ∧ RegFrame [d] s t) ∧
    (encode (.ldFromHL d) = [1#2 ++ regCode d ++ 6#3] ∧ instrCycles (.ldFromHL d) s = 8 ∧
      ∃ t, exec (.ldFromHL d) s = .next t ∧ t.reg d = s.read8 (.data 0) s.hl ∧ KeepsFSpPc s t ∧ RegFrame [d] s t)

/-- Rules R133, R134: the stores of a register and of an immediate to the byte at `HL`. -/
def Obligations.StoreToHLForms : Prop :=
  ∀ (r : Reg8) (n : Byte) (s : State),
    (encode (.ldToHL r) = [1#2 ++ 6#3 ++ regCode r] ∧ instrCycles (.ldToHL r) s = 8 ∧
      ∃ t, exec (.ldToHL r) s = .next t ∧ Stored s.hl (s.reg r) s t) ∧
    encode (.ld_atHL_n n) = [0x36, n] ∧ instrCycles (.ld_atHL_n n) s = 12 ∧
      ∃ t, exec (.ld_atHL_n n) s = .next t ∧ Stored s.hl n s t

/-- Rules R136, R138, R140, R142, R145, R147: the loads of `A`, with the address they read and `HL` afterwards. -/
def Obligations.LoadAccumulatorForms : Prop :=
  ∀ (s : State) (n : Byte) (nn : Word), ∀ row ∈ accumulatorLoads s n nn,
    encode row.1 = row.2.1 ∧ instrCycles row.1 s = row.2.2.1 ∧
    ∃ t, exec row.1 s = .next t ∧ t.regs.a = s.read8 (.data 0) row.2.2.2.1 ∧ t.hl = row.2.2.2.2 ∧
      KeepsFSpPc s t ∧ RegFrame [.A, .H, .L] s t

/-- Rules R137, R139, R141, R143, R144, R146: the stores of `A`, with the address they write and `HL` afterwards. -/
def Obligations.StoreAccumulatorForms : Prop :=
  ∀ (s : State) (n : Byte) (nn : Word), ∀ row ∈ accumulatorStores s n nn,
    encode row.1 = row.2.1 ∧ instrCycles row.1 s = row.2.2.1 ∧
    ∃ u t, exec row.1 s = .next t ∧ Stored row.2.2.2.1 s.regs.a s u ∧ t = { u with regs := t.regs } ∧
      t.hl = row.2.2.2.2 ∧ KeepsFSpPc s t ∧ ∀ r, r ∉ [Reg8.H, Reg8.L] → t.reg r = s.reg r

/-! ## 16-bit loads and the stack -/

/-- Rules R162, R163, R164: an immediate into a pair or `SP`, `HL` into `SP`, and `SP` stored low byte first at `nn` and
`nn + 1`. -/
def Obligations.LoadPairAndStackPointer : Prop :=
  ∀ (p : Pair) (nn : Word) (s : State),
    (encode (.ldPair p nn) = [0#2 ++ pairCode p ++ 1#4, nn.extractLsb' 0 8, nn.extractLsb' 8 8] ∧
      instrCycles (.ldPair p nn) s = 12 ∧
      ∃ t, exec (.ldPair p nn) s = .next t ∧ t.pair p = nn ∧ (∀ q, q ≠ p → t.pair q = s.pair q) ∧
        t.regs.a = s.regs.a ∧ t.regs.f = s.regs.f ∧ t.regs.pc = s.regs.pc ∧
        RegFrame [.B, .C, .D, .E, .H, .L] s t) ∧
    (encode .ld_SP_HL = [0xF9] ∧ instrCycles .ld_SP_HL s = 8 ∧
      exec .ld_SP_HL s = .next { s with regs := { s.regs with sp := s.regs.h ++ s.regs.l } }) ∧
    encode (.ld_atnn_SP nn) = [0x08, nn.extractLsb' 0 8, nn.extractLsb' 8 8] ∧ instrCycles (.ld_atnn_SP nn) s = 20 ∧
      ∃ u t, exec (.ld_atnn_SP nn) s = .next t ∧ Stored nn (s.regs.sp.extractLsb' 0 8) s u ∧
        Stored (nn + 1) (s.regs.sp.extractLsb' 8 8) u t

/-- Rules R165, R224: `SP` plus a signed displacement, into `HL` and into `SP`; the carries are those of the unsigned
addition of the low byte of `SP` and the byte `e`. -/
def Obligations.StackPointerPlusDisplacement : Prop :=
  ∀ (e : Byte) (s : State),
    let sum : Word := s.regs.sp + e.signExtend 16
    let f : Byte := flagByte false false (decide (s.regs.sp.toNat % 16 + e.toNat % 16 > 15))
      (decide (s.regs.sp.toNat % 256 + e.toNat > 255))
    (encode (.ld_HL_SP_e e) = [0xF8, e] ∧ instrCycles (.ld_HL_SP_e e) s = 12 ∧
      ∃ t, exec (.ld_HL_SP_e e) s = .next t ∧ t.hl = sum ∧ t.regs.f = f ∧ t.regs.sp = s.regs.sp ∧
        t.regs.pc = s.regs.pc ∧ RegFrame [.H, .L] s t) ∧
    encode (.add_SP_e e) = [0xE8, e] ∧ instrCycles (.add_SP_e e) s = 16 ∧
      exec (.add_SP_e e) s = .next { s with regs := { s.regs with sp := sum, f := f } }

/-- Rules R160, R166: a pair is pushed; of `AF` the low nibble of `F` is zero. -/
def Obligations.PushPair : Prop :=
  ∀ (p : StackPair) (s : State),
    encode (.push p) = [3#2 ++ stackPairCode p ++ 5#4] ∧ instrCycles (.push p) s = 16 ∧
    ∃ t, exec (.push p) s = .next t ∧ Pushed (match p with
      | .BC => s.regs.b ++ s.regs.c
      | .DE => s.regs.d ++ s.regs.e
      | .HL => s.regs.h ++ s.regs.l
      | .AF => s.regs.a ++ (s.regs.f &&& 0xF0)) s t

/-- Rules R161, R167: the value on the top of the stack goes into a pair and `SP` rises by 2; of `AF` the low nibble is
discarded. -/
def Obligations.PopPair : Prop :=
  ∀ (p : StackPair) (s : State),
    encode (.pop p) = [3#2 ++ stackPairCode p ++ 1#4] ∧ instrCycles (.pop p) s = 12 ∧
    exec (.pop p) s = .next { s with regs :=
      match p with
      | .BC => { s.regs with sp := s.regs.sp + 2, b := s.stackTop.extractLsb' 8 8, c := s.stackTop.extractLsb' 0 8 }
      | .DE => { s.regs with sp := s.regs.sp + 2, d := s.stackTop.extractLsb' 8 8, e := s.stackTop.extractLsb' 0 8 }
      | .HL => { s.regs with sp := s.regs.sp + 2, h := s.stackTop.extractLsb' 8 8, l := s.stackTop.extractLsb' 0 8 }
      | .AF => { s.regs with sp := s.regs.sp + 2, a := s.stackTop.extractLsb' 8 8,
                             f := s.stackTop.extractLsb' 0 8 &&& 0xF0 } }

/-- Where both bytes of the stack slot are plain memory, a pop of a pair after a push of another gives the pushed value
and restores `SP` (rule R161); the low byte lies at the lower address (rules R69, R160). -/
def Obligations.PopReturnsWhatWasPushed : Prop :=
  ∀ (p q : StackPair) (s t : State), (s.cellOf (s.regs.sp - 1)).isSome → (s.cellOf (s.regs.sp - 2)).isSome →
    exec (.push p) s = .next t →
    t.stackTop = s.stackPair p ∧ (∀ acc, t.read8 acc t.regs.sp = (s.stackPair p).extractLsb' 0 8) ∧
    (∀ acc, t.read8 acc (t.regs.sp + 1) = (s.stackPair p).extractLsb' 8 8) ∧
    ∃ u, exec (.pop q) t = .next u ∧ u.regs.sp = s.regs.sp ∧
      u.stackPair q = if q = .AF then s.stackPair p &&& 0xFFF0 else s.stackPair p

/-! ## 8-bit arithmetic and logic -/

/-- Rules R180 to R185: `ADD` and `ADC`, in every operand form, as arithmetic on numbers; the carry in is that before the
instruction. -/
def Obligations.AddForms : Prop :=
  ∀ (withCarry : Bool) (form : AluForm) (s : State),
    let op : AluOp := if withCarry then .ADC else .ADD
    let a := s.regs.a.toNat
    let b := (form.value s).toNat
    let c := if withCarry then s.carry.toNat else 0
    encode (form.instr op) = form.bytes op ∧ instrCycles (form.instr op) s = form.cost ∧
    ∃ t, exec (form.instr op) s = .next t ∧ t.regs.a.toNat = (a + b + c) % 256 ∧
      t.regs.f = flagByte (decide ((a + b + c) % 256 = 0)) false (decide (a % 16 + b % 16 + c > 15))
        (decide (a + b + c > 255)) ∧
      t.regs.sp = s.regs.sp ∧ t.regs.pc = s.regs.pc ∧ RegFrame [.A] s t

/-- Rules R186 to R191: `SUB` and `SBC`; half-carry and carry are borrows. -/
def Obligations.SubtractForms : Prop :=
  ∀ (withCarry : Bool) (form : AluForm) (s : State),
    let op : AluOp := if withCarry then .SBC else .SUB
    let a := s.regs.a.toNat
    let b := (form.value s).toNat
    let c := if withCarry then s.carry.toNat else 0
    encode (form.instr op) = form.bytes op ∧ instrCycles (form.instr op) s = form.cost ∧
    ∃ t, exec (form.instr op) s = .next t ∧ (t.regs.a.toNat + b + c) % 256 = a ∧
      t.regs.f = flagByte (decide (t.regs.a.toNat = 0)) true (decide (a % 16 < b % 16 + c)) (decide (a < b + c)) ∧
      t.regs.sp = s.regs.sp ∧ t.regs.pc = s.regs.pc ∧ RegFrame [.A] s t

/-- Rules R192 to R200: `AND`, `XOR` and `OR`, bit by bit; the flags do not depend on what they were. -/
def Obligations.LogicForms : Prop :=
  ∀ (form : AluForm) (s : State), ∀ row ∈ [(AluOp.AND, Bool.and, true), (.XOR, Bool.xor, false), (.OR, Bool.or, false)],
    encode (form.instr row.1) = form.bytes row.1 ∧ instrCycles (form.instr row.1) s = form.cost ∧
    ∃ t, exec (form.instr row.1) s = .next t ∧
      (∀ k, t.regs.a.getLsbD k = row.2.1 (s.regs.a.getLsbD k) ((form.value s).getLsbD k)) ∧
      t.regs.f = flagByte (decide (t.regs.a = 0)) false row.2.2 false ∧
      t.regs.sp = s.regs.sp ∧ t.regs.pc = s.regs.pc ∧ RegFrame [.A] s t

/-- Rules R201 to R203: `CP` writes no register; `Z` says equal, `C` says below. -/
def Obligations.CompareForms : Prop :=
  ∀ (form : AluForm) (s : State),
    let a := s.regs.a.toNat
    let b := (form.value s).toNat
    encode (form.instr .CP) = form.bytes .CP ∧ instrCycles (form.instr .CP) s = form.cost ∧
    ∃ t, exec (form.instr .CP) s = .next t ∧
      t.regs.f = flagByte (decide (s.regs.a = form.value s)) true (decide (a % 16 < b % 16)) (decide (a < b)) ∧
      t.regs.sp = s.regs.sp ∧ t.regs.pc = s.regs.pc ∧ RegFrame [] s t

/-- Rules R206, R208: `INC r` and `DEC r`; `C` keeps its value. -/
def Obligations.IncrementDecrementRegister : Prop :=
  ∀ (r : Reg8) (s : State),
    (encode (.inc r) = [0#2 ++ regCode r ++ 4#3] ∧ instrCycles (.inc r) s = 4 ∧
      ∃ t, exec (.inc r) s = .next t ∧ (t.reg r).toNat = ((s.reg r).toNat + 1) % 256 ∧
        t.regs.f = flagByte (decide ((s.reg r).toNat = 255)) false (decide ((s.reg r).toNat % 16 = 15)) s.carry ∧
        t.regs.sp = s.regs.sp ∧ t.regs.pc = s.regs.pc ∧ RegFrame [r] s t) ∧
    encode (.dec r) = [0#2 ++ regCode r ++ 5#3] ∧ instrCycles (.dec r) s = 4 ∧
      ∃ t, exec (.dec r) s = .next t ∧ (t.reg r).toNat = ((s.reg r).toNat + 255) % 256 ∧
        t.regs.f = flagByte (decide ((s.reg r).toNat = 1)) true (decide ((s.reg r).toNat % 16 = 0)) s.carry ∧
        t.regs.sp = s.regs.sp ∧ t.regs.pc = s.regs.pc ∧ RegFrame [r] s t

/-- Rules R207, R209: `INC (HL)` and `DEC (HL)`: one read, then one write of the same address. -/
def Obligations.IncrementDecrementMemory : Prop :=
  ∀ s : State,
    let v := s.read8 (.data 0) s.hl
    (encode .inc_atHL = [0x34] ∧ instrCycles .inc_atHL s = 12 ∧
      ∃ t, exec .inc_atHL s = .next t ∧
        Stored s.hl (v + 1) { s with regs := { s.regs with
          f := flagByte (decide (v.toNat = 255)) false (decide (v.toNat % 16 = 15)) s.carry } } t) ∧
    encode .dec_atHL = [0x35] ∧ instrCycles .dec_atHL s = 12 ∧
      ∃ t, exec .dec_atHL s = .next t ∧
        Stored s.hl (v - 1) { s with regs := { s.regs with
          f := flagByte (decide (v.toNat = 1)) true (decide (v.toNat % 16 = 0)) s.carry } } t

/-- Rule R214: `DAA`, as arithmetic on numbers: the correction is 6, 96, 102 or 0, decided on `A` before it, and added or
subtracted as `N` says. -/
def Obligations.DecimalAdjust : Prop :=
  ∀ s : State,
    let a := s.regs.a.toNat
    let n := s.regs.f.getLsbD 6
    let low : Bool := s.regs.f.getLsbD 5 || (!n && decide (a % 16 > 9))
    let high : Bool := s.regs.f.getLsbD 4 || (!n && decide (a > 0x99))
    let corr := (if low then 6 else 0) + (if high then 96 else 0)
    encode .daa = [0x27] ∧ instrCycles .daa s = 4 ∧
    ∃ t, exec .daa s = .next t ∧ t.regs.a.toNat = (if n then a + 256 - corr else a + corr) % 256 ∧
      t.regs.f = flagByte (decide (t.regs.a.toNat = 0)) n false high ∧
      t.regs.sp = s.regs.sp ∧ t.regs.pc = s.regs.pc ∧ RegFrame [.A] s t

/-- Rules R215, R216, R217: `CPL`, `SCF`, `CCF`. -/
def Obligations.ComplementAndCarryFlag : Prop :=
  ∀ s : State,
    let z := s.regs.f.getLsbD 7
    (encode .cpl = [0x2F] ∧ instrCycles .cpl s = 4 ∧
      ∃ t, exec .cpl s = .next t ∧ t.regs.a.toNat = 255 - s.regs.a.toNat ∧ t.regs.f = flagByte z true true s.carry ∧
        t.regs.sp = s.regs.sp ∧ t.regs.pc = s.regs.pc ∧ RegFrame [.A] s t) ∧
    (encode .scf = [0x37] ∧ instrCycles .scf s = 4 ∧
      ∃ t, exec .scf s = .next t ∧ t.regs.f = flagByte z false false true ∧
        t.regs.sp = s.regs.sp ∧ t.regs.pc = s.regs.pc ∧ RegFrame [] s t) ∧
    encode .ccf = [0x3F] ∧ instrCycles .ccf s = 4 ∧
      ∃ t, exec .ccf s = .next t ∧ t.regs.f = flagByte z false false (!s.carry) ∧
        t.regs.sp = s.regs.sp ∧ t.regs.pc = s.regs.pc ∧ RegFrame [] s t

/-! ## 16-bit arithmetic -/

/-- Rules R221, R222: `INC rr` and `DEC rr` write no flag. -/
def Obligations.IncrementDecrementPair : Prop :=
  ∀ (p : Pair) (s : State),
    (encode (.incPair p) = [0#2 ++ pairCode p ++ 3#4] ∧ instrCycles (.incPair p) s = 8 ∧
      ∃ t, exec (.incPair p) s = .next t ∧ (t.pair p).toNat = ((s.pair p).toNat + 1) % 65536 ∧
        (∀ q, q ≠ p → t.pair q = s.pair q) ∧ t.regs.a = s.regs.a ∧ t.regs.f = s.regs.f ∧ t.regs.pc = s.regs.pc ∧
        RegFrame [.B, .C, .D, .E, .H, .L] s t) ∧
    encode (.decPair p) = [0#2 ++ pairCode p ++ 11#4] ∧ instrCycles (.decPair p) s = 8 ∧
      ∃ t, exec (.decPair p) s = .next t ∧ (t.pair p).toNat = ((s.pair p).toNat + 65535) % 65536 ∧
        (∀ q, q ≠ p → t.pair q = s.pair q) ∧ t.regs.a = s.regs.a ∧ t.regs.f = s.regs.f ∧ t.regs.pc = s.regs.pc ∧
        RegFrame [.B, .C, .D, .E, .H, .L] s t

/-- Rules R220, R223: `ADD HL,rr`; the carries are those out of bits 11 and 15, and `Z` keeps its value. -/
def Obligations.AddPairToHL : Prop :=
  ∀ (p : Pair) (s : State),
    let a := s.hl.toNat
    let b := (s.pair p).toNat
    encode (.addHL p) = [0#2 ++ pairCode p ++ 9#4] ∧ instrCycles (.addHL p) s = 8 ∧
    ∃ t, exec (.addHL p) s = .next t ∧ t.hl.toNat = (a + b) % 65536 ∧
      t.regs.f = flagByte (s.regs.f.getLsbD 7) false (decide (a % 4096 + b % 4096 > 4095)) (decide (a + b > 65535)) ∧
      t.regs.sp = s.regs.sp ∧ t.regs.pc = s.regs.pc ∧ RegFrame [.H, .L] s t

/-! ## Rotates, shifts and bits -/

/-- The result and the carry out of `rot[y]` on numbers (rule R230). -/
def rotateSpec (op : RotOp) (v c : Nat) : Nat × Bool :=
  match op with
  | .RLC => ((2 * v + v / 128) % 256, decide (v / 128 = 1))
  | .RRC => (v / 2 + 128 * (v % 2), decide (v % 2 = 1))
  | .RL => ((2 * v + c) % 256, decide (v / 128 = 1))
  | .RR => (v / 2 + 128 * c, decide (v % 2 = 1))
  | .SLA => (2 * v % 256, decide (v / 128 = 1))
  | .SRA => (v / 2 + 128 * (v / 128), decide (v % 2 = 1))
  | .SWAP => (v % 16 * 16 + v / 16, false)
  | .SRL => (v / 2, decide (v % 2 = 1))

/-- Rules R231 to R234: the accumulator rotates clear `Z` without condition. -/
def Obligations.AccumulatorRotates : Prop :=
  ∀ s : State, ∀ row ∈ [(Instr.rlca, (0x07 : Byte), RotOp.RLC), (.rrca, 0x0F, .RRC), (.rla, 0x17, .RL), (.rra, 0x1F, .RR)],
    let r := rotateSpec row.2.2 s.regs.a.toNat s.carry.toNat
    encode row.1 = [row.2.1] ∧ instrCycles row.1 s = 4 ∧
    ∃ t, exec row.1 s = .next t ∧ t.regs.a.toNat = r.1 ∧ t.regs.f = flagByte false false false r.2 ∧
      t.regs.sp = s.regs.sp ∧ t.regs.pc = s.regs.pc ∧ RegFrame [.A] s t

/-- Rules R240, R242, R244, R246, R248, R250, R252, R254: the rotates and shifts of a register. -/
def Obligations.RotateRegister : Prop :=
  ∀ (op : RotOp) (x : Reg8) (s : State),
    let r := rotateSpec op (s.reg x).toNat s.carry.toNat
    encode (.rot op x) = [0xCB, 0#2 ++ rotCode op ++ regCode x] ∧ instrCycles (.rot op x) s = 8 ∧
    ∃ t, exec (.rot op x) s = .next t ∧ (t.reg x).toNat = r.1 ∧
      t.regs.f = flagByte (decide (r.1 = 0)) false false r.2 ∧
      t.regs.sp = s.regs.sp ∧ t.regs.pc = s.regs.pc ∧ RegFrame [x] s t

/-- Rules R241, R243, R245, R247, R249, R251, R253, R255: the rotates and shifts of the byte at `HL`. -/
def Obligations.RotateMemory : Prop :=
  ∀ (op : RotOp) (s : State),
    let r := rotateSpec op (s.read8 (.data 0) s.hl).toNat s.carry.toNat
    encode (.rotHL op) = [0xCB, 0#2 ++ rotCode op ++ 6#3] ∧ instrCycles (.rotHL op) s = 16 ∧
    ∃ t, exec (.rotHL op) s = .next t ∧
      Stored s.hl (BitVec.ofNat 8 r.1)
        { s with regs := { s.regs with f := flagByte (decide (r.1 = 0)) false false r.2 } } t

/-- Rules R256, R257: `BIT` writes no register and no byte of memory, and keeps `C`. -/
def Obligations.BitTest : Prop :=
  ∀ (b : Oct) (x : Reg8) (s : State),
    (encode (.bit b x) = [0xCB, 1#2 ++ octCode b ++ regCode x] ∧ instrCycles (.bit b x) s = 8 ∧
      ∃ t, exec (.bit b x) s = .next t ∧
        t.regs.f = flagByte (decide ((s.reg x).toNat / 2 ^ b.toNat % 2 = 0)) false true s.carry ∧
        t.regs.sp = s.regs.sp ∧ t.regs.pc = s.regs.pc ∧ RegFrame [] s t) ∧
    encode (.bitHL b) = [0xCB, 1#2 ++ octCode b ++ 6#3] ∧ instrCycles (.bitHL b) s = 12 ∧
      ∃ t, exec (.bitHL b) s = .next t ∧
        t.regs.f = flagByte (decide ((s.read8 (.data 0) s.hl).toNat / 2 ^ b.toNat % 2 = 0)) false true s.carry ∧
        t.regs.sp = s.regs.sp ∧ t.regs.pc = s.regs.pc ∧ RegFrame [] s t

/-- A byte with bit `b` set to `x`, every other bit kept. -/
def withBit (v : Byte) (b : Oct) (x : Bool) (w : Byte) : Prop :=
  ∀ k, k < 8 → w.getLsbD k = if k = b.toNat then x else v.getLsbD k

/-- Rules R258 to R261: `RES` and `SET` write the one bit of a register or of the byte at `HL`, and no flag; on memory one
read, then one write, also where the bit already was so. -/
def Obligations.ResetAndSetBit : Prop :=
  ∀ (b : Oct) (x : Reg8) (s : State),
    (encode (.res b x) = [0xCB, 2#2 ++ octCode b ++ regCode x] ∧ instrCycles (.res b x) s = 8 ∧
      ∃ t, exec (.res b x) s = .next t ∧ withBit (s.reg x) b false (t.reg x) ∧ KeepsFSpPc s t ∧ RegFrame [x] s t) ∧
    (encode (.set b x) = [0xCB, 3#2 ++ octCode b ++ regCode x] ∧ instrCycles (.set b x) s = 8 ∧
      ∃ t, exec (.set b x) s = .next t ∧ withBit (s.reg x) b true (t.reg x) ∧ KeepsFSpPc s t ∧ RegFrame [x] s t) ∧
    (encode (.resHL b) = [0xCB, 2#2 ++ octCode b ++ 6#3] ∧ instrCycles (.resHL b) s = 16 ∧
      ∃ w t, exec (.resHL b) s = .next t ∧ withBit (s.read8 (.data 0) s.hl) b false w ∧ Stored s.hl w s t) ∧
    encode (.setHL b) = [0xCB, 3#2 ++ octCode b ++ 6#3] ∧ instrCycles (.setHL b) s = 16 ∧
      ∃ w t, exec (.setHL b) s = .next t ∧ withBit (s.read8 (.data 0) s.hl) b true w ∧ Stored s.hl w s t

/-! ## Control transfer -/

/-- Rules R270 to R274: the jumps write `PC` and nothing else; a relative target is counted from the next instruction and
wraps; a jump that is not taken leaves `PC` and costs less. -/
def Obligations.Jumps : Prop :=
  ∀ (cc : Cond) (nn : Word) (e : Byte) (s : State),
    let taken := condHolds s.regs.f cc
    let rel : Word := BitVec.ofInt 16 ((s.regs.pc.toNat : Int) + e.toInt)
    (encode (.jp_nn nn) = [0xC3, nn.extractLsb' 0 8, nn.extractLsb' 8 8] ∧ instrCycles (.jp_nn nn) s = 16 ∧
      exec (.jp_nn nn) s = .next { s with regs := { s.regs with pc := nn } }) ∧
    (encode (.jpCond cc nn) = [3#2 ++ 0#1 ++ condCode cc ++ 2#3, nn.extractLsb' 0 8, nn.extractLsb' 8 8] ∧
      instrCycles (.jpCond cc nn) s = (if taken then 16 else 12) ∧
      exec (.jpCond cc nn) s = .next { s with regs := { s.regs with pc := if taken then nn else s.regs.pc } }) ∧
    (encode .jp_HL = [0xE9] ∧ instrCycles .jp_HL s = 4 ∧
      exec .jp_HL s = .next { s with regs := { s.regs with pc := s.regs.h ++ s.regs.l } }) ∧
    (encode (.jr_e e) = [0x18, e] ∧ instrCycles (.jr_e e) s = 12 ∧
      exec (.jr_e e) s = .next { s with regs := { s.regs with pc := rel } }) ∧
    encode (.jrCond cc e) = [0#2 ++ 1#1 ++ condCode cc ++ 0#3, e] ∧
      instrCycles (.jrCond cc e) s = (if taken then 12 else 8) ∧
      exec (.jrCond cc e) s = .next { s with regs := { s.regs with pc := if taken then rel else s.regs.pc } }

/-- Rules R275, R276, R280: a call pushes the address of the next instruction and goes to its target; one that is not
taken pushes nothing. -/
def Obligations.CallsAndRestarts : Prop :=
  ∀ (cc : Cond) (nn : Word) (y : Oct) (s : State),
    (encode (.call_nn nn) = [0xCD, nn.extractLsb' 0 8, nn.extractLsb' 8 8] ∧ instrCycles (.call_nn nn) s = 24 ∧
      ∃ t, Pushed s.regs.pc s t ∧ exec (.call_nn nn) s = .next { t with regs := { t.regs with pc := nn } }) ∧
    (encode (.callCond cc nn) = [3#2 ++ 0#1 ++ condCode cc ++ 4#3, nn.extractLsb' 0 8, nn.extractLsb' 8 8] ∧
      instrCycles (.callCond cc nn) s = (if condHolds s.regs.f cc then 24 else 12) ∧
      (condHolds s.regs.f cc = true →
        ∃ t, Pushed s.regs.pc s t ∧ exec (.callCond cc nn) s = .next { t with regs := { t.regs with pc := nn } }) ∧
      (condHolds s.regs.f cc = false → exec (.callCond cc nn) s = .next s)) ∧
    encode (.rst y) = [3#2 ++ octCode y ++ 7#3] ∧ instrCycles (.rst y) s = 16 ∧
      ∃ t, Pushed s.regs.pc s t ∧
        exec (.rst y) s = .next { t with regs := { t.regs with pc := BitVec.ofNat 16 (y.toNat * 8) } }

/-- Rules R277, R278, and the effect of `RETI` (rule R279): a return goes to the popped address; `RETI` also sets `IME`,
with no latency, and restores nothing else. -/
def Obligations.Returns : Prop :=
  ∀ (cc : Cond) (s : State),
    let back : Regs := { s.regs with sp := s.regs.sp + 2, pc := s.stackTop }
    (encode .ret = [0xC9] ∧ instrCycles .ret s = 16 ∧ exec .ret s = .next { s with regs := back }) ∧
    (encode (.retCond cc) = [3#2 ++ 0#1 ++ condCode cc ++ 0#3] ∧
      instrCycles (.retCond cc) s = (if condHolds s.regs.f cc then 20 else 8) ∧
      exec (.retCond cc) s = .next { s with regs := if condHolds s.regs.f cc then back else s.regs }) ∧
    encode .reti = [0xD9] ∧ instrCycles .reti s = 16 ∧
      exec .reti s = .next { s with regs := back, irq := { s.irq with ime := true } }

/-! ## System instructions -/

/-- Rules R290, R292, R293, R294 and the effect of `HALT` (rule R291). That `STOP` runs on is the least behaviour the spec
gives it (log entry 8). -/
def Obligations.SystemInstructions : Prop :=
  ∀ (n : Byte) (s : State),
    (encode .nop = [0x00] ∧ instrCycles .nop s = 4 ∧ exec .nop s = .next s) ∧
    (encode .halt = [0x76] ∧ instrCycles .halt s = 4 ∧ exec .halt s = .next { s with run := .halted }) ∧
    (encode (.stop n) = [0x10, n] ∧ instrCycles (.stop n) s = 4 ∧ exec (.stop n) s = .next s) ∧
    (encode .di = [0xF3] ∧ instrCycles .di s = 4 ∧
      exec .di s = .next { s with irq := { s.irq with ime := false, imePending := false } }) ∧
    encode .ei = [0xFB] ∧ instrCycles .ei s = 4 ∧
      exec .ei s = .next { s with irq := { s.irq with ime := true, imePending := true } }

/-- The prefix byte taken alone fetches the second byte and does what the extended table says of it (rules R101, R102,
R111): what the two bytes decode to. -/
def Obligations.PrefixSelectsExtendedTable : Prop :=
  ∀ (s : State) (op2 : Byte), s.read8 (.fetch 1) s.regs.pc = op2 →
    ∃ i t, decode [0xCB, op2] = .ok (i, []) ∧ exec .prefixCb s = .next t ∧
      exec i { s with regs := { s.regs with pc := s.regs.pc + 1 } } = .next t

/-! ## The bus -/

/-- Rule R52: what a read of each region gives, for the ROM-only cartridge and any other (rule R54). -/
def Obligations.ReadsByRegion : Prop :=
  ∀ (s : State) (acc : Access) (a : Word),
    (a.toNat ≤ 0x7FFF → ∀ rom, s.cart = .romOnly rom → s.read8 acc a = s.readMem .rom a.toNat) ∧
    (0xA000 ≤ a.toNat → a.toNat ≤ 0xBFFF → ∀ rom, s.cart = .romOnly rom → s.read8 acc a = 0) ∧
    (a.toNat ≤ 0x7FFF ∨ 0xA000 ≤ a.toNat ∧ a.toNat ≤ 0xBFFF →
      ∀ w, s.cart = .external w → s.read8 acc a = Config.cartridgeByte w a) ∧
    (0x8000 ≤ a.toNat → a.toNat ≤ 0x9FFF → s.read8 acc a =
      s.readMem .vram (8192 * (if s.params.colorMode then s.gfx.vbk.toNat else 0) + (a.toNat - 0x8000))) ∧
    (0xC000 ≤ a.toNat → a.toNat ≤ 0xCFFF → s.read8 acc a = s.readMem .wram (a.toNat - 0xC000)) ∧
    (0xD000 ≤ a.toNat → a.toNat ≤ 0xDFFF → s.read8 acc a =
      s.readMem .wram (4096 * (if s.params.colorMode then max s.svbk.toNat 1 else 1) + (a.toNat - 0xD000))) ∧
    (0xE000 ≤ a.toNat → a.toNat ≤ 0xFDFF → s.read8 acc a = s.read8 acc (a - 0x2000)) ∧
    (0xFE00 ≤ a.toNat → a.toNat ≤ 0xFE9F → s.read8 acc a = s.readMem .oam (a.toNat - 0xFE00)) ∧
    (0xFEA0 ≤ a.toNat → a.toNat ≤ 0xFEFF → s.read8 acc a = 0) ∧
    (a.toNat = 0xFFFF → s.read8 acc a = s.irq.ie.setWidth 8) ∧
    (0xFF00 ≤ a.toNat → a.toNat ≤ 0xFFFE → s.read8 acc a = s.ioRead acc (a.extractLsb' 0 8))

/-- Rule R53: what a write of each region does, for the ROM-only cartridge and any other (rule R54). -/
def Obligations.WritesByRegion : Prop :=
  ∀ (s : State) (a : Word) (v : Byte),
    (a.toNat ≤ 0x7FFF ∨ 0xA000 ≤ a.toNat ∧ a.toNat ≤ 0xBFFF →
      (∀ rom, s.cart = .romOnly rom → s.write8 a v = s) ∧
      ∀ w, s.cart = .external w → s.write8 a v = { s with cart := .external (w ++ [(a.toNat, v)]) }) ∧
    (0x8000 ≤ a.toNat → a.toNat ≤ 0x9FFF → s.write8 a v =
      s.writeMem .vram (8192 * (if s.params.colorMode then s.gfx.vbk.toNat else 0) + (a.toNat - 0x8000)) v) ∧
    (0xC000 ≤ a.toNat → a.toNat ≤ 0xCFFF → s.write8 a v = s.writeMem .wram (a.toNat - 0xC000) v) ∧
    (0xD000 ≤ a.toNat → a.toNat ≤ 0xDFFF → s.write8 a v =
      s.writeMem .wram (4096 * (if s.params.colorMode then max s.svbk.toNat 1 else 1) + (a.toNat - 0xD000)) v) ∧
    (0xE000 ≤ a.toNat → a.toNat ≤ 0xFDFF → s.write8 a v = s.write8 (a - 0x2000) v) ∧
    (0xFE00 ≤ a.toNat → a.toNat ≤ 0xFE9F → s.write8 a v = s.writeMem .oam (a.toNat - 0xFE00) v) ∧
    (0xFEA0 ≤ a.toNat → a.toNat ≤ 0xFEFF → s.write8 a v = s) ∧
    (a.toNat = 0xFFFF → s.write8 a v = { s with irq := { s.irq with ie := v.extractLsb' 0 5 } }) ∧
    (0xFF00 ≤ a.toNat → a.toNat ≤ 0xFFFE → s.write8 a v = ioWrite (a.extractLsb' 0 8) v s)

/-- The low bytes that name a register in `FF00`-`FF7F` (rule R62). -/
def namedIo (n : Byte) : Bool :=
  n ∈ [0x00, 0x01, 0x02, 0x04, 0x05, 0x06, 0x07, 0x0F, 0x40, 0x41, 0x42, 0x43, 0x44, 0x45, 0x46, 0x47, 0x48, 0x49, 0x4A,
    0x4B, 0x4F, 0x51, 0x52, 0x53, 0x54, 0x55, 0x68, 0x69, 0x6A, 0x6B, 0x70] || (0x10 ≤ n.toNat && n.toNat ≤ 0x3F)

/-- Rule R62, the column of reads (with rules R15, R16, R21, R23, R27, R29, R31, R63 for the bits that are not stored). -/
def Obligations.IoReads : Prop :=
  ∀ (s : State) (acc : Access) (n : Byte),
    (∀ row ∈ [((0x04 : Byte), s.timer.div), (0x05, s.timer.tima), (0x06, s.timer.tma), (0x07, 0#5 ++ s.timer.tac),
        (0x0F, 7#3 ++ s.irq.flag), (0x40, s.gfx.lcdc), (0x42, s.gfx.scy), (0x43, s.gfx.scx), (0x44, s.gfx.ly),
        (0x45, s.gfx.lyc), (0x46, s.dma.oamdma), (0x47, s.gfx.bgp), (0x48, s.gfx.obp0), (0x49, s.gfx.obp1),
        (0x4A, s.gfx.wy), (0x4B, s.gfx.wx), (0x4F, 0#7 ++ s.gfx.vbk), (0x51, 0xFF), (0x52, 0xFF), (0x53, 0xFF),
        (0x54, 0xFF), (0x55, s.dma.hdma5), (0x68, BitVec.ofBool s.gfx.bcps.autoInc ++ 0#1 ++ s.gfx.bcps.index),
        (0x69, s.readMem .bgPalette s.gfx.bcps.index.toNat),
        (0x6A, BitVec.ofBool s.gfx.ocps.autoInc ++ 0#1 ++ s.gfx.ocps.index),
        (0x6B, s.readMem .objPalette s.gfx.ocps.index.toNat), (0x70, 0#5 ++ s.svbk)],
      s.ioRead acc row.1 = row.2) ∧
    s.ioRead acc 0x41 = BitVec.ofBool s.params.statBit7 ++ BitVec.ofBool s.gfx.lycIe ++ BitVec.ofBool s.gfx.oamIe ++
      BitVec.ofBool s.gfx.vblIe ++ BitVec.ofBool s.gfx.hblIe ++ BitVec.ofBool s.gfx.coinc ++
      (match s.gfx.mode with | .hblank => 0#2 | .vblank => 1#2 | .oamScan => 2#2 | .transfer => 3#2) ∧
    (n = 0x00 ∨ n = 0x01 ∨ n = 0x02 ∨ (0x10 ≤ n.toNat ∧ n.toNat ≤ 0x3F) →
      s.ioRead acc n = Config.oracleByte s.draws acc n) ∧
    (namedIo n = false → s.ioRead acc n = s.readMem .hram n.toNat)

/-- Rule R62, the column of writes: each write changes what is listed and nothing else. -/
def Obligations.IoWrites : Prop :=
  ∀ (s : State) (n v : Byte),
    (∀ row ∈ [((0x00 : Byte), { s with outputs := s.outputs ++ [.joypadWrite v] }), (0x01, s), (0x02, s),
        (0x04, { s with timer := { s.timer with div := 0, divAcc := 0, timaAcc := 0 } }),
        (0x05, { s with timer := { s.timer with tima := v } }), (0x06, { s with timer := { s.timer with tma := v } }),
        (0x07, { s with timer := { s.timer with tac := v.extractLsb' 0 3 } }),
        (0x0F, { s with irq := { s.irq with flag := v.extractLsb' 0 5 } }), (0x40, setControl v s),
        (0x41, { s with gfx := { s.gfx with lycIe := v.getLsbD 6, oamIe := v.getLsbD 5, vblIe := v.getLsbD 4,
                                            hblIe := v.getLsbD 3 } }),
        (0x42, { s with gfx := { s.gfx with scy := v } }), (0x43, { s with gfx := { s.gfx with scx := v } }), (0x44, s),
        (0x45, { s with gfx := { s.gfx with lyc := v } }), (0x46, oamDma v s),
        (0x47, { s with gfx := { s.gfx with bgp := v } }), (0x48, { s with gfx := { s.gfx with obp0 := v } }),
        (0x49, { s with gfx := { s.gfx with obp1 := v } }), (0x4A, { s with gfx := { s.gfx with wy := v } }),
        (0x4B, { s with gfx := { s.gfx with wx := v } }), (0x4F, { s with gfx := { s.gfx with vbk := v.extractLsb' 0 1 } }),
        (0x51, { s with dma := { s.dma with src := v ++ s.dma.src.extractLsb' 0 8 } }),
        (0x52, { s with dma := { s.dma with src := s.dma.src.extractLsb' 8 8 ++ v } }),
        (0x53, { s with dma := { s.dma with dst := v ++ s.dma.dst.extractLsb' 0 8 } }),
        (0x54, { s with dma := { s.dma with dst := s.dma.dst.extractLsb' 8 8 ++ v } }), (0x55, hdma5Write v s),
        (0x68, { s with gfx := { s.gfx with bcps := { autoInc := v.getLsbD 7, index := v.extractLsb' 0 6 } } }),
        (0x6A, { s with gfx := { s.gfx with ocps := { autoInc := v.getLsbD 7, index := v.extractLsb' 0 6 } } }),
        (0x70, { s with svbk := v.extractLsb' 0 3 })],
      ioWrite row.1 v s = row.2) ∧
    (∃ t, ioWrite 0x69 v s = t ∧ t.readMem .bgPalette s.gfx.bcps.index.toNat = v ∧
      (∀ k, k ≠ s.gfx.bcps.index.toNat → t.readMem .bgPalette k = s.readMem .bgPalette k) ∧
      (t.gfx.bcps.index.toNat = if s.gfx.bcps.autoInc then (s.gfx.bcps.index.toNat + 1) % 64 else s.gfx.bcps.index.toNat) ∧
      t = { s with mems := { s.mems with bgPalette := t.mems.bgPalette },
                   gfx := { s.gfx with bcps := { s.gfx.bcps with index := t.gfx.bcps.index } } }) ∧
    (∃ t, ioWrite 0x6B v s = t ∧ t.readMem .objPalette s.gfx.ocps.index.toNat = v ∧
      (∀ k, k ≠ s.gfx.ocps.index.toNat → t.readMem .objPalette k = s.readMem .objPalette k) ∧
      (t.gfx.ocps.index.toNat = if s.gfx.ocps.autoInc then (s.gfx.ocps.index.toNat + 1) % 64 else s.gfx.ocps.index.toNat) ∧
      t = { s with mems := { s.mems with objPalette := t.mems.objPalette },
                   gfx := { s.gfx with ocps := { s.gfx.ocps with index := t.gfx.ocps.index } } }) ∧
    (0x10 ≤ n.toNat → n.toNat ≤ 0x3F → ioWrite n v s = { s with outputs := s.outputs ++ [.audioWrite n v] }) ∧
    (namedIo n = false → ioWrite n v s = s.writeMem .hram n.toNat v)

/-- Rule R73 for plain memory: a read returns the value of the most recent write to the same backing byte, through any
alias (the echo, a bank window), and every other byte, in every region, is left alone. -/
def Obligations.ReadReturnsMostRecentWrite : Prop :=
  ∀ (s : State) (a : Word) (v : Byte), (s.cellOf a).isSome →
    (∀ acc b, s.cellOf b = s.cellOf a → (s.write8 a v).read8 acc b = v) ∧
    (∀ acc b, s.cellOf b ≠ s.cellOf a → (s.write8 a v).read8 acc b = s.read8 acc b) ∧
    ∀ r k, s.cellOf a ≠ some (r, k) → (s.write8 a v).readMem r k = s.readMem r k

/-! ## Interrupts -/

/-- Rules R301, R306, R307, R308, R309: the servicing phase. With no source requested and enabled it only clears
`IME_PENDING`. Else a halted machine wakes, and if `IME` is set and not pending the lowest such source is dispatched: its
request and `IME` are cleared, `PC` is pushed, `PC` becomes its vector, and the dispatch cost is added. -/
def Obligations.InterruptServicing : Prop :=
  ∀ s : State,
    let woken : RunState := if s.run = .halted then .running else s.run
    (s.irq.ie &&& s.irq.flag = 0 →
      serviceInterrupts s = { s with irq := { s.irq with imePending := false } } ∧ serviceCycles s = 0) ∧
    (s.irq.ie &&& s.irq.flag ≠ 0 → s.irq.ime = false ∨ s.irq.imePending = true →
      serviceInterrupts s = { s with irq := { s.irq with imePending := false }, run := woken } ∧ serviceCycles s = 0) ∧
    ∀ i : Nat, i < 5 → s.irq.ie.getLsbD i = true → s.irq.flag.getLsbD i = true →
      (∀ j, j < i → (s.irq.ie.getLsbD j && s.irq.flag.getLsbD j) = false) →
      s.irq.ime = true → s.irq.imePending = false →
      ∃ g t, (∀ j, j < 5 → g.getLsbD j = (s.irq.flag.getLsbD j && decide (j ≠ i))) ∧
        Pushed s.regs.pc { s with irq := { s.irq with flag := g, ime := false } } t ∧
        serviceInterrupts s =
          { t with regs := { t.regs with pc := BitVec.ofNat 16 (0x40 + 8 * i) }, run := woken,
                   irq := { t.irq with imePending := false } } ∧
        serviceCycles s = s.params.intDispatchCycles

/-- The step of an `EI` dispatches nothing, whatever is pending, and leaves `IME` set and its latency over; the step of a
`DI` dispatches nothing either, for it acts at once (rules R293, R294, R410; the draw and outputs of a step are the model's:
log entries 5, 6). -/
def Obligations.EnableLatencyIsOneInstruction : Prop :=
  ∀ s : State, s.run = .running →
    let s₀ : State := { s with draws := s.draws + 1, outputs := [] }
    (s₀.read8 (.fetch 0) s.regs.pc = 0xFB →
      ∃ t, step s = .next t ∧ t.regs = { s.regs with pc := s.regs.pc + 1 } ∧ t.irq.ime = true ∧
        t.irq.imePending = false ∧ t.run = .running) ∧
    (s₀.read8 (.fetch 0) s.regs.pc = 0xF3 →
      ∃ t, step s = .next t ∧ t.regs = { s.regs with pc := s.regs.pc + 1 } ∧ t.irq.ime = false ∧
        t.irq.imePending = false ∧ t.run = .running)

/-- A halted machine with `IE = 0` never stops and never resumes: "a hang, not a fault" (rule R291, corner case 2; rule
R331), and no register changes. -/
def Obligations.HaltWithoutEnabledSourceHangs : Prop :=
  ∀ (n : Nat) (s : State), s.run = .halted → s.irq.ie = 0 →
    ∃ t, Host.Core.run Sys2Proof.core n s = .next t ∧ t.run = .halted ∧ t.irq.ie = 0 ∧ t.regs = s.regs

/-! ## Timer -/

/-- Rules R342, R343, R344, R345: the divider counts cycles in units of `DIV_PERIOD`, the counter, if enabled, in units of
the period its rate field selects, reloading from `TMA` and requesting source 2 on an overflow; a disabled counter neither
counts nor accumulates. The clauses cover no overflow and one; nothing else changes. The periods are parameters (rule R3),
each at least one cycle, whose defaults are 256 and 1024, 16, 64, 256. -/
def Obligations.TimerCounts : Prop :=
  (Timing.default.divPeriod = 256 ∧ Timing.default.timaPeriod0 = 1024 ∧ Timing.default.timaPeriod1 = 16 ∧
    Timing.default.timaPeriod2 = 64 ∧ Timing.default.timaPeriod3 = 256) ∧
  ∀ (n : Nat) (s : State),
    let t := timerStep n s
    let p := s.params.timing
    let period := if s.timer.tac.toNat % 4 = 0 then p.timaPeriod0 else if s.timer.tac.toNat % 4 = 1 then p.timaPeriod1
      else if s.timer.tac.toNat % 4 = 2 then p.timaPeriod2 else p.timaPeriod3
    let ticks := (s.timer.timaAcc + n) / period
    (s.timer.divAcc < p.divPeriod →
      t.timer.divAcc < p.divPeriod ∧
      p.divPeriod * t.timer.div.toNat + t.timer.divAcc =
        (p.divPeriod * s.timer.div.toNat + s.timer.divAcc + n) % (256 * p.divPeriod)) ∧
    (s.timer.tac.getLsbD 2 = false →
      t.timer.tima = s.timer.tima ∧ t.timer.timaAcc = s.timer.timaAcc ∧ t.irq = s.irq) ∧
    (s.timer.tac.getLsbD 2 = true → 1 ≤ period → t.timer.timaAcc = (s.timer.timaAcc + n) % period ∧
      (s.timer.tima.toNat + ticks ≤ 255 → t.timer.tima.toNat = s.timer.tima.toNat + ticks ∧ t.irq = s.irq) ∧
      (256 ≤ s.timer.tima.toNat + ticks → s.timer.tima.toNat + ticks + s.timer.tma.toNat ≤ 511 →
        t.timer.tima.toNat = s.timer.tma.toNat + (s.timer.tima.toNat + ticks - 256) ∧
        t.irq = { s.irq with flag := s.irq.flag ||| 4#5 })) ∧
    t = { s with irq := { s.irq with flag := t.irq.flag },
                 timer := { t.timer with tma := s.timer.tma, tac := s.timer.tac } }

/-- The timer sees only how much time has passed, not how it was cut into steps (the accumulation policy of rule R341; a period of
0, which makes no machine, gives no tick: log entry 21). -/
def Obligations.TimerTimeIsAdditive : Prop :=
  ∀ (m n : Nat) (s : State), timerStep (m + n) s = timerStep n (timerStep m s)

/-! ## Graphics timing -/

/-- One `GraphicsStep`. With the display off nothing happens (rule R366); with it on, cycles that do not reach the budget of
the mode only accumulate, and those that exactly reach it (rules R351, R352) end the mode as rules R353, R354, R355, R356
say, with the entry actions of rules R359 to R363: the registers, the requests, and the pulses of the step, which the model
keeps as a list of outputs (its choice: log entry 6). The budgets and the numbers of lines are parameters (rule R3), of values
that make a machine (log entry 21); their defaults are 80, 172, 204, 456 and 144, 10. -/
def Obligations.GraphicsModeEnds : Prop :=
  (Mode.oamScan.budget .default = 80 ∧ Mode.transfer.budget .default = 172 ∧ Mode.hblank.budget .default = 204 ∧
    Mode.vblank.budget .default = 456 ∧ Timing.default.visibleLines = 144 ∧ Timing.default.vblankLines = 10) ∧
  ∀ (n : Nat) (s : State), (s.gfx.lcdc.getLsbD 7 = false → graphicsStep n s = s) ∧
  (LegalTiming s.params.timing → s.gfx.lcdc.getLsbD 7 = true →
    let t := graphicsStep n s
    let p := s.params.timing
    let next := s.gfx.ly + 1
    let equal (k : Byte) : Bool := k == s.gfx.lyc
    let bit (b : Bool) (v : BitVec 5) : BitVec 5 := if b then v else 0
    (s.gfx.modeClock + n < (match s.gfx.mode with
        | .oamScan => p.oamScanCycles | .transfer => p.pixelCycles
        | .hblank => p.hblankCycles | .vblank => p.lineCycles) →
      t = { s with gfx := { s.gfx with modeClock := s.gfx.modeClock + n } }) ∧
    (s.gfx.mode = .oamScan → s.gfx.modeClock + n = p.oamScanCycles →
      t = { s with gfx := { s.gfx with mode := .transfer, modeClock := 0 } }) ∧
    (s.gfx.mode = .transfer → s.gfx.modeClock + n = p.pixelCycles →
      ∃ u, t = dmaHBlank u ∧
        u = { s with gfx := { s.gfx with mode := .hblank, modeClock := 0 },
                     irq := { s.irq with flag := s.irq.flag ||| bit s.gfx.hblIe 2 },
                     outputs := s.outputs ++ [.scanline s.gfx.ly, .hblankEvent] }) ∧
    (s.gfx.mode = .hblank → s.gfx.modeClock + n = p.hblankCycles → s.gfx.ly.toNat + 1 ≠ p.visibleLines →
      t = { s with gfx := { s.gfx with mode := .oamScan, modeClock := 0, ly := next, coinc := equal next },
                   irq := { s.irq with flag := s.irq.flag ||| bit (equal next && s.gfx.lycIe || s.gfx.oamIe) 2 } }) ∧
    (s.gfx.mode = .hblank → s.gfx.modeClock + n = p.hblankCycles → s.gfx.ly.toNat + 1 = p.visibleLines →
      t = { s with gfx := { s.gfx with mode := .vblank, modeClock := 0, ly := next, coinc := equal next },
                   irq := { s.irq with
                     flag := s.irq.flag ||| 1 ||| bit (equal next && s.gfx.lycIe || s.gfx.vblIe) 2 },
                   outputs := s.outputs ++ [.frame] }) ∧
    (s.gfx.mode = .vblank → s.gfx.modeClock + n = p.lineCycles → s.gfx.ly.toNat + 1 ≠ p.visibleLines + p.vblankLines →
      t = { s with gfx := { s.gfx with modeClock := 0, ly := next, coinc := equal next },
                   irq := { s.irq with flag := s.irq.flag ||| bit (equal next && s.gfx.lycIe) 2 } }) ∧
    (s.gfx.mode = .vblank → s.gfx.modeClock + n = p.lineCycles → s.gfx.ly.toNat + 1 = p.visibleLines + p.vblankLines →
      t = { s with gfx := { s.gfx with mode := .oamScan, modeClock := 0, ly := 0, coinc := equal 0 },
                   irq := { s.irq with flag := s.irq.flag ||| bit (equal 0 && s.gfx.lycIe || s.gfx.oamIe) 2 } }))

/-- The engine sees only how much time has passed, not how it was cut into steps: overshoot is carried (rule R352), whatever
the parameters of a machine are (log entry 21). -/
def Obligations.GraphicsTimeIsAdditive : Prop :=
  ∀ (m n : Nat) (s : State), LegalTiming s.params.timing →
    graphicsStep (m + n) s = graphicsStep n (graphicsStep m s)

/-- Rule R357: the cycles of a frame, with the default parameters 70224, lead from object-scan at line 0 back there with one
vertical-blank event; a horizontal-blank event fires for every visible line, with the defaults 144 (rule R362). The events are
counted in the list of outputs in which the model keeps them (its choice: log entry 6); the parameters are those of a machine
(log entry 21). -/
def Obligations.FrameIs70224Cycles : Prop :=
  (frameCycles .default = 70224 ∧ Timing.default.visibleLines = 144) ∧
  ∀ s : State, LegalTiming s.params.timing →
    s.gfx.lcdc.getLsbD 7 = true → s.gfx.mode = .oamScan → s.gfx.ly = 0 → s.gfx.modeClock = 0 →
    let t := graphicsStep (frameCycles s.params.timing) s
    t.gfx.mode = .oamScan ∧ t.gfx.ly = 0 ∧ t.gfx.modeClock = 0 ∧ t.irq.flag.getLsbD 0 = true ∧
    t.outputs.count .frame = s.outputs.count .frame + 1 ∧
    t.outputs.count .hblankEvent = s.outputs.count .hblankEvent + s.params.timing.visibleLines

/-- Rules R365, R367, R368: a write of `LCDC` that clears bit 7 resets the scanline, the mode and the accumulator, and is
silent but for the blank frame, which the model keeps as an output (its choice: log entry 6); one that sets it makes one
coincidence check; any other only stores the byte. -/
def Obligations.DisplayControl : Prop :=
  ∀ (s : State) (v : Byte),
    (s.gfx.lcdc.getLsbD 7 = true → v.getLsbD 7 = false →
      s.write8 0xFF40 v = { s with gfx := { s.gfx with lcdc := v, ly := 0, mode := .hblank, modeClock := 0 },
                                   outputs := s.outputs ++ [.blankFrame] }) ∧
    (s.gfx.lcdc.getLsbD 7 = false → v.getLsbD 7 = true →
      s.write8 0xFF40 v =
        { s with gfx := { s.gfx with lcdc := v, coinc := s.gfx.ly == s.gfx.lyc },
                 irq := { s.irq with
                   flag := s.irq.flag ||| (if (s.gfx.ly == s.gfx.lyc) && s.gfx.lycIe then 2#5 else 0#5) } }) ∧
    (s.gfx.lcdc.getLsbD 7 = v.getLsbD 7 → s.write8 0xFF40 v = { s with gfx := { s.gfx with lcdc := v } })

/-! ## DMA -/

/-- Rule R380: a write of `v` to `FF46` copies the 160 bytes from `v * 256` on, as the bus reads them, into `OAM`, and
changes nothing else but `OAMDMA` (and the draw counter, the model's own). -/
def Obligations.OamDmaCopies160Bytes : Prop :=
  ∀ (s : State) (v : Byte),
    let s₁ : State := { s with dma := { s.dma with oamdma := v } }
    let t := s.write8 0xFF46 v
    (∀ i, i < 160 → t.readMem .oam i = s₁.read8 (.oamDma i) (BitVec.ofNat 16 (v.toNat * 256 + i))) ∧
    t = { s₁ with mems := { s.mems with oam := t.mems.oam }, draws := s.draws + 1 }

/-- Where the source of a VRAM DMA of `n` bytes from offset `base` on is read outside video RAM. -/
def vramDmaSourceApart (s : State) (base n : Nat) : Prop :=
  ∀ k, k < n → ∀ off, decodeAddr ((s.dma.src &&& 0xFFF0) + BitVec.ofNat 16 (base + k)) ≠ .vram off

/-- The copy of `n` bytes from offset `base` on, one bus write after another in ascending order, each byte read immediately
before its write (rules R381, R383, R385): the memories of `t` are those of the last state. -/
def vramDmaThroughBus (s t : State) (base n : Nat) : Prop :=
  ∃ u : Nat → State, u 0 = s ∧ t.mems = (u n).mems ∧ ∀ k, k < n →
    u (k + 1) = (u k).write8 (BitVec.ofNat 16 (0x8000 + ((s.dma.dst &&& 0x1FF0).toNat + (base + k)) % 0x2000))
      ((u k).read8 (.vramDma (base + k)) ((s.dma.src &&& 0xFFF0) + BitVec.ofNat 16 (base + k)))

/-- What a copy of `n` bytes from offset `base` on leaves in video RAM (rules R381, R383, R385): byte `k` of the
destination, in the bank `VBK` selects, is byte `k` of the source, and every other byte of video RAM is as before. -/
def vramDmaCopied (s t : State) (base n : Nat) : Prop :=
  (∀ k, k < n → t.readMem .vram (s.vramCell (((s.dma.dst &&& 0x1FF0).toNat + (base + k)) % 0x2000)) =
    s.read8 (.vramDma (base + k)) ((s.dma.src &&& 0xFFF0) + BitVec.ofNat 16 (base + k))) ∧
  ∀ j, (∀ k, k < n → j ≠ s.vramCell (((s.dma.dst &&& 0x1FF0).toNat + (base + k)) % 0x2000)) →
    t.readMem .vram j = s.readMem .vram j

/-- Rules R382, R383, R384, R387: what a write to `FF55` does: it aborts an active transfer if bit 7 is clear; else it
copies at once if bit 7 is clear, or arms. The immediate copy is the given sequence of bus writes; where the source is not
itself in video RAM its bytes are also stated one by one. -/
def Obligations.VramDmaControl : Prop :=
  ∀ (s : State) (v : Byte),
    let blocks := v.toNat % 128 + 1
    let t := s.write8 0xFF55 v
    (s.dma.active = true → v.getLsbD 7 = false →
      t = { s with dma := { s.dma with active := false, hdma5 := s.dma.hdma5 ||| 0x80 } }) ∧
    (v.getLsbD 7 = true →
      t = { s with dma := { s.dma with remaining := blocks, block := 0, active := true, hdma5 := v &&& 0x7F } }) ∧
    (s.dma.active = false → v.getLsbD 7 = false →
      t = { s with mems := { s.mems with vram := t.mems.vram }, dma := { s.dma with hdma5 := 0xFF },
                   draws := s.draws + 1 } ∧
      vramDmaThroughBus s t 0 (blocks * 16) ∧
      (vramDmaSourceApart s 0 (blocks * 16) → vramDmaCopied s t 0 (blocks * 16)))

/-- Rules R385, R386: on a horizontal-blank event an active transfer copies its next 16 bytes and counts down; on reaching
zero `HDMA5` is the sentinel `0xFF` and the transfer is over; with no transfer active nothing happens. -/
def Obligations.HorizontalBlankCopiesOneBlock : Prop :=
  ∀ s : State,
    let t := dmaHBlank s
    (s.dma.active = false → t = s) ∧
    (s.dma.active = true → 1 ≤ s.dma.remaining →
      t = { s with mems := { s.mems with vram := t.mems.vram }, dma := t.dma, draws := s.draws + 1 } ∧
      t.dma = (if s.dma.remaining = 1 then
          { s.dma with block := s.dma.block + 1, remaining := 0, active := false, hdma5 := 0xFF }
        else { s.dma with block := s.dma.block + 1, remaining := s.dma.remaining - 1,
                          hdma5 := BitVec.ofNat 8 (s.dma.remaining - 2) &&& 0x7F }) ∧
      vramDmaThroughBus s t (s.dma.block * 16) 16 ∧
      (vramDmaSourceApart s (s.dma.block * 16) 16 → vramDmaCopied s t (s.dma.block * 16) 16))

/-! ## Reset, the invariant and the host -/

/-- Rules R40, R41: the reset state for every value of the parameters and every cartridge. -/
def Obligations.ResetState : Prop :=
  ∀ (p : Params) (cart : Cartridge),
    (State.resetWith p cart).regs =
      { a := if p.colorMode then 0x11 else 0x01, f := flagByte true false true true, b := 0x00, c := 0x13, d := 0x00,
        e := 0xD8, h := 0x01, l := 0x4D, pc := 0x0100, sp := 0xFFFE } ∧
    (State.resetWith p cart).irq = { ime := false, imePending := false, ie := 0, flag := 1 } ∧
    (State.resetWith p cart).run = .running ∧
    (State.resetWith p cart).timer = { div := 0, tima := 0, tma := 0, tac := 0, divAcc := 0, timaAcc := 0 } ∧
    (State.resetWith p cart).gfx =
      { lcdc := 0x91, lycIe := false, oamIe := false, vblIe := false, hblIe := false, coinc := true, mode := .oamScan,
        ly := 0, lyc := 0, modeClock := 0, scy := 0, scx := 0, wy := 0, wx := 0, bgp := 0xFC, obp0 := 0xFF, obp1 := 0xFF,
        vbk := 0, bcps := { autoInc := false, index := 0 }, ocps := { autoInc := false, index := 0 } } ∧
    (State.resetWith p cart).svbk = 0 ∧
    (State.resetWith p cart).dma =
      { oamdma := 0xFF, src := 0, dst := 0, remaining := 0, block := 0, active := false, hdma5 := 0xFF }

/-- The invariant holds right after reset, for all values of the parameters that make a machine (log entry 21), and the
values of rule R3 do; the machine's own reset is that of these values, with no colour mode and a ROM-only cartridge (the
model's choice: log entry 3). The default periods are the clock over the rates of rules R342 and R344. -/
def Obligations.ResetMeetsInvariant : Prop :=
  (∀ p : Params, LegalTiming p.timing → Inv (State.resetWith p (.romOnly []))) ∧ LegalTiming .default ∧
  State.reset =
    State.resetWith
      { colorMode := false, intDispatchCycles := 20, statBit7 := true,
        timing :=
          { haltStepCycles := 4,
            oamScanCycles := 80, pixelCycles := 172, hblankCycles := 204, lineCycles := 456,
            visibleLines := 144, vblankLines := 10,
            divPeriod := clockHz / 16384, timaPeriod0 := clockHz / 4096, timaPeriod1 := clockHz / 262144,
            timaPeriod2 := clockHz / 65536, timaPeriod3 := clockHz / 16384 } }
      (.romOnly []) ∧
  clockHz = 4194304

/-- Every step keeps the invariant: the memories stay in canonical form and inside their arrays, `F[3:0]` stays zero (rule
R12), `IME_PENDING` is 0 between steps (rule R309), the parameters stay those of a machine (log entry 21), the scanline fits
the mode and the accumulator stays below the budget (rules R25, R352), the engine is held while disabled (rule R366), the
timer's accumulators stay below their periods, and `HDMA5` reads as rule R388 says. -/
def Obligations.StepsKeepInvariant : Prop :=
  ∀ s t : State, Inv s → step s = .next t → Inv t

/-- What the host may do between steps (rule R330; functions beside the step, log entry 12): a request sets its bit of `IF`
and nothing else; a snapshot of a differently configured core is refused and any other replaces the whole state, where
"differently configured" is read as other parameters or another kind of cartridge (the model's choice: log entry 19); a reset
from any state, Faulted too, is the reset state of rules R40 and R41 for the machine's own parameters and cartridge (rule
R400; the cartridge as it stands: log entry 11), with nothing written to the memories, whose bytes are then
unspecified again (rule R42; free values: log entry 4). -/
def Obligations.HostActions : Prop :=
  ∀ s snap : State,
    hostJoypadRequest s = { s with irq := { s.irq with flag := s.irq.flag ||| 0b10000#5 } } ∧
    hostSerialRequest s = { s with irq := { s.irq with flag := s.irq.flag ||| 0b01000#5 } } ∧
    (snap.params = s.params → snap.cart.sameType s.cart = true → restoreSnapshot snap s = .next snap) ∧
    (snap.params ≠ s.params ∨ snap.cart.sameType s.cart = false → restoreSnapshot snap s = .refused .snapshotMismatch) ∧
    hostReset s = State.resetWith s.params s.cart ∧ (hostReset s).run = .running ∧ (hostReset s).params = s.params ∧
    (hostReset s).mems = { vram := [], wram := [], oam := [], hram := [], bgPalette := [], objPalette := [] } ∧
    (Inv s → Inv (hostJoypadRequest s) ∧ Inv (hostSerialRequest s))
end

