-- ==== Sys2Proof/Laws/State.lean ====
section
/-! SUPPORT. The small lemmas of the state and the registers: one per field per update, so that no later proof unfolds a
record update. -/

namespace Sys2Proof.Machine

/-! ### `setReg` -/

@[simp] theorem setReg_regs (s : State) (r : Reg8) (v : Byte) : (s.setReg r v).regs = s.regs.write r v := rfl
@[simp] theorem setReg_irq (s : State) (r : Reg8) (v : Byte) : (s.setReg r v).irq = s.irq := rfl
@[simp] theorem setReg_run (s : State) (r : Reg8) (v : Byte) : (s.setReg r v).run = s.run := rfl
@[simp] theorem setReg_mems (s : State) (r : Reg8) (v : Byte) : (s.setReg r v).mems = s.mems := rfl
@[simp] theorem setReg_svbk (s : State) (r : Reg8) (v : Byte) : (s.setReg r v).svbk = s.svbk := rfl
@[simp] theorem setReg_gfx (s : State) (r : Reg8) (v : Byte) : (s.setReg r v).gfx = s.gfx := rfl
@[simp] theorem setReg_timer (s : State) (r : Reg8) (v : Byte) : (s.setReg r v).timer = s.timer := rfl
@[simp] theorem setReg_dma (s : State) (r : Reg8) (v : Byte) : (s.setReg r v).dma = s.dma := rfl
@[simp] theorem setReg_cart (s : State) (r : Reg8) (v : Byte) : (s.setReg r v).cart = s.cart := rfl
@[simp] theorem setReg_params (s : State) (r : Reg8) (v : Byte) : (s.setReg r v).params = s.params := rfl
@[simp] theorem setReg_draws (s : State) (r : Reg8) (v : Byte) : (s.setReg r v).draws = s.draws := rfl
@[simp] theorem setReg_outputs (s : State) (r : Reg8) (v : Byte) : (s.setReg r v).outputs = s.outputs := rfl

/-! ### `setFlags` -/

@[simp] theorem setFlags_regs (s : State) (fl : Flags) : (s.setFlags fl).regs = { s.regs with f := fl.toByte } := rfl
@[simp] theorem setFlags_irq (s : State) (fl : Flags) : (s.setFlags fl).irq = s.irq := rfl
@[simp] theorem setFlags_run (s : State) (fl : Flags) : (s.setFlags fl).run = s.run := rfl
@[simp] theorem setFlags_mems (s : State) (fl : Flags) : (s.setFlags fl).mems = s.mems := rfl
@[simp] theorem setFlags_svbk (s : State) (fl : Flags) : (s.setFlags fl).svbk = s.svbk := rfl
@[simp] theorem setFlags_gfx (s : State) (fl : Flags) : (s.setFlags fl).gfx = s.gfx := rfl
@[simp] theorem setFlags_timer (s : State) (fl : Flags) : (s.setFlags fl).timer = s.timer := rfl
@[simp] theorem setFlags_dma (s : State) (fl : Flags) : (s.setFlags fl).dma = s.dma := rfl
@[simp] theorem setFlags_cart (s : State) (fl : Flags) : (s.setFlags fl).cart = s.cart := rfl
@[simp] theorem setFlags_params (s : State) (fl : Flags) : (s.setFlags fl).params = s.params := rfl
@[simp] theorem setFlags_draws (s : State) (fl : Flags) : (s.setFlags fl).draws = s.draws := rfl
@[simp] theorem setFlags_outputs (s : State) (fl : Flags) : (s.setFlags fl).outputs = s.outputs := rfl

/-! ### `writeF` -/

@[simp] theorem writeF_regs (s : State) (v : Byte) : (s.writeF v).regs = { s.regs with f := v &&& 0xF0 } := rfl
@[simp] theorem writeF_irq (s : State) (v : Byte) : (s.writeF v).irq = s.irq := rfl
@[simp] theorem writeF_run (s : State) (v : Byte) : (s.writeF v).run = s.run := rfl
@[simp] theorem writeF_mems (s : State) (v : Byte) : (s.writeF v).mems = s.mems := rfl
@[simp] theorem writeF_svbk (s : State) (v : Byte) : (s.writeF v).svbk = s.svbk := rfl
@[simp] theorem writeF_gfx (s : State) (v : Byte) : (s.writeF v).gfx = s.gfx := rfl
@[simp] theorem writeF_timer (s : State) (v : Byte) : (s.writeF v).timer = s.timer := rfl
@[simp] theorem writeF_dma (s : State) (v : Byte) : (s.writeF v).dma = s.dma := rfl
@[simp] theorem writeF_cart (s : State) (v : Byte) : (s.writeF v).cart = s.cart := rfl
@[simp] theorem writeF_params (s : State) (v : Byte) : (s.writeF v).params = s.params := rfl
@[simp] theorem writeF_draws (s : State) (v : Byte) : (s.writeF v).draws = s.draws := rfl
@[simp] theorem writeF_outputs (s : State) (v : Byte) : (s.writeF v).outputs = s.outputs := rfl

/-! ### `setPc` -/

@[simp] theorem setPc_regs (s : State) (v : Word) : (s.setPc v).regs = { s.regs with pc := v } := rfl
@[simp] theorem setPc_irq (s : State) (v : Word) : (s.setPc v).irq = s.irq := rfl
@[simp] theorem setPc_run (s : State) (v : Word) : (s.setPc v).run = s.run := rfl
@[simp] theorem setPc_mems (s : State) (v : Word) : (s.setPc v).mems = s.mems := rfl
@[simp] theorem setPc_svbk (s : State) (v : Word) : (s.setPc v).svbk = s.svbk := rfl
@[simp] theorem setPc_gfx (s : State) (v : Word) : (s.setPc v).gfx = s.gfx := rfl
@[simp] theorem setPc_timer (s : State) (v : Word) : (s.setPc v).timer = s.timer := rfl
@[simp] theorem setPc_dma (s : State) (v : Word) : (s.setPc v).dma = s.dma := rfl
@[simp] theorem setPc_cart (s : State) (v : Word) : (s.setPc v).cart = s.cart := rfl
@[simp] theorem setPc_params (s : State) (v : Word) : (s.setPc v).params = s.params := rfl
@[simp] theorem setPc_draws (s : State) (v : Word) : (s.setPc v).draws = s.draws := rfl
@[simp] theorem setPc_outputs (s : State) (v : Word) : (s.setPc v).outputs = s.outputs := rfl

/-! ### `setSp` -/

@[simp] theorem setSp_regs (s : State) (v : Word) : (s.setSp v).regs = { s.regs with sp := v } := rfl
@[simp] theorem setSp_irq (s : State) (v : Word) : (s.setSp v).irq = s.irq := rfl
@[simp] theorem setSp_run (s : State) (v : Word) : (s.setSp v).run = s.run := rfl
@[simp] theorem setSp_mems (s : State) (v : Word) : (s.setSp v).mems = s.mems := rfl
@[simp] theorem setSp_svbk (s : State) (v : Word) : (s.setSp v).svbk = s.svbk := rfl
@[simp] theorem setSp_gfx (s : State) (v : Word) : (s.setSp v).gfx = s.gfx := rfl
@[simp] theorem setSp_timer (s : State) (v : Word) : (s.setSp v).timer = s.timer := rfl
@[simp] theorem setSp_dma (s : State) (v : Word) : (s.setSp v).dma = s.dma := rfl
@[simp] theorem setSp_cart (s : State) (v : Word) : (s.setSp v).cart = s.cart := rfl
@[simp] theorem setSp_params (s : State) (v : Word) : (s.setSp v).params = s.params := rfl
@[simp] theorem setSp_draws (s : State) (v : Word) : (s.setSp v).draws = s.draws := rfl
@[simp] theorem setSp_outputs (s : State) (v : Word) : (s.setSp v).outputs = s.outputs := rfl

/-! ### `setHl` -/

@[simp] theorem setHl_regs (s : State) (v : Word) : (s.setHl v).regs = { s.regs with h := hiByte v, l := loByte v } := rfl
@[simp] theorem setHl_irq (s : State) (v : Word) : (s.setHl v).irq = s.irq := rfl
@[simp] theorem setHl_run (s : State) (v : Word) : (s.setHl v).run = s.run := rfl
@[simp] theorem setHl_mems (s : State) (v : Word) : (s.setHl v).mems = s.mems := rfl
@[simp] theorem setHl_svbk (s : State) (v : Word) : (s.setHl v).svbk = s.svbk := rfl
@[simp] theorem setHl_gfx (s : State) (v : Word) : (s.setHl v).gfx = s.gfx := rfl
@[simp] theorem setHl_timer (s : State) (v : Word) : (s.setHl v).timer = s.timer := rfl
@[simp] theorem setHl_dma (s : State) (v : Word) : (s.setHl v).dma = s.dma := rfl
@[simp] theorem setHl_cart (s : State) (v : Word) : (s.setHl v).cart = s.cart := rfl
@[simp] theorem setHl_params (s : State) (v : Word) : (s.setHl v).params = s.params := rfl
@[simp] theorem setHl_draws (s : State) (v : Word) : (s.setHl v).draws = s.draws := rfl
@[simp] theorem setHl_outputs (s : State) (v : Word) : (s.setHl v).outputs = s.outputs := rfl

/-! ### `setBc` -/

@[simp] theorem setBc_regs (s : State) (v : Word) : (s.setBc v).regs = { s.regs with b := hiByte v, c := loByte v } := rfl
@[simp] theorem setBc_irq (s : State) (v : Word) : (s.setBc v).irq = s.irq := rfl
@[simp] theorem setBc_run (s : State) (v : Word) : (s.setBc v).run = s.run := rfl
@[simp] theorem setBc_mems (s : State) (v : Word) : (s.setBc v).mems = s.mems := rfl
@[simp] theorem setBc_svbk (s : State) (v : Word) : (s.setBc v).svbk = s.svbk := rfl
@[simp] theorem setBc_gfx (s : State) (v : Word) : (s.setBc v).gfx = s.gfx := rfl
@[simp] theorem setBc_timer (s : State) (v : Word) : (s.setBc v).timer = s.timer := rfl
@[simp] theorem setBc_dma (s : State) (v : Word) : (s.setBc v).dma = s.dma := rfl
@[simp] theorem setBc_cart (s : State) (v : Word) : (s.setBc v).cart = s.cart := rfl
@[simp] theorem setBc_params (s : State) (v : Word) : (s.setBc v).params = s.params := rfl
@[simp] theorem setBc_draws (s : State) (v : Word) : (s.setBc v).draws = s.draws := rfl
@[simp] theorem setBc_outputs (s : State) (v : Word) : (s.setBc v).outputs = s.outputs := rfl

/-! ### `setDe` -/

@[simp] theorem setDe_regs (s : State) (v : Word) : (s.setDe v).regs = { s.regs with d := hiByte v, e := loByte v } := rfl
@[simp] theorem setDe_irq (s : State) (v : Word) : (s.setDe v).irq = s.irq := rfl
@[simp] theorem setDe_run (s : State) (v : Word) : (s.setDe v).run = s.run := rfl
@[simp] theorem setDe_mems (s : State) (v : Word) : (s.setDe v).mems = s.mems := rfl
@[simp] theorem setDe_svbk (s : State) (v : Word) : (s.setDe v).svbk = s.svbk := rfl
@[simp] theorem setDe_gfx (s : State) (v : Word) : (s.setDe v).gfx = s.gfx := rfl
@[simp] theorem setDe_timer (s : State) (v : Word) : (s.setDe v).timer = s.timer := rfl
@[simp] theorem setDe_dma (s : State) (v : Word) : (s.setDe v).dma = s.dma := rfl
@[simp] theorem setDe_cart (s : State) (v : Word) : (s.setDe v).cart = s.cart := rfl
@[simp] theorem setDe_params (s : State) (v : Word) : (s.setDe v).params = s.params := rfl
@[simp] theorem setDe_draws (s : State) (v : Word) : (s.setDe v).draws = s.draws := rfl
@[simp] theorem setDe_outputs (s : State) (v : Word) : (s.setDe v).outputs = s.outputs := rfl

/-! ### `setAf` -/

@[simp] theorem setAf_regs (s : State) (v : Word) : (s.setAf v).regs = { s.regs with a := hiByte v, f := loByte v &&& 0xF0 } := rfl
@[simp] theorem setAf_irq (s : State) (v : Word) : (s.setAf v).irq = s.irq := rfl
@[simp] theorem setAf_run (s : State) (v : Word) : (s.setAf v).run = s.run := rfl
@[simp] theorem setAf_mems (s : State) (v : Word) : (s.setAf v).mems = s.mems := rfl
@[simp] theorem setAf_svbk (s : State) (v : Word) : (s.setAf v).svbk = s.svbk := rfl
@[simp] theorem setAf_gfx (s : State) (v : Word) : (s.setAf v).gfx = s.gfx := rfl
@[simp] theorem setAf_timer (s : State) (v : Word) : (s.setAf v).timer = s.timer := rfl
@[simp] theorem setAf_dma (s : State) (v : Word) : (s.setAf v).dma = s.dma := rfl
@[simp] theorem setAf_cart (s : State) (v : Word) : (s.setAf v).cart = s.cart := rfl
@[simp] theorem setAf_params (s : State) (v : Word) : (s.setAf v).params = s.params := rfl
@[simp] theorem setAf_draws (s : State) (v : Word) : (s.setAf v).draws = s.draws := rfl
@[simp] theorem setAf_outputs (s : State) (v : Word) : (s.setAf v).outputs = s.outputs := rfl

/-! ### `setRun` -/

@[simp] theorem setRun_regs (s : State) (r : RunState) : (s.setRun r).regs = s.regs := rfl
@[simp] theorem setRun_irq (s : State) (r : RunState) : (s.setRun r).irq = s.irq := rfl
@[simp] theorem setRun_run (s : State) (r : RunState) : (s.setRun r).run = r := rfl
@[simp] theorem setRun_mems (s : State) (r : RunState) : (s.setRun r).mems = s.mems := rfl
@[simp] theorem setRun_svbk (s : State) (r : RunState) : (s.setRun r).svbk = s.svbk := rfl
@[simp] theorem setRun_gfx (s : State) (r : RunState) : (s.setRun r).gfx = s.gfx := rfl
@[simp] theorem setRun_timer (s : State) (r : RunState) : (s.setRun r).timer = s.timer := rfl
@[simp] theorem setRun_dma (s : State) (r : RunState) : (s.setRun r).dma = s.dma := rfl
@[simp] theorem setRun_cart (s : State) (r : RunState) : (s.setRun r).cart = s.cart := rfl
@[simp] theorem setRun_params (s : State) (r : RunState) : (s.setRun r).params = s.params := rfl
@[simp] theorem setRun_draws (s : State) (r : RunState) : (s.setRun r).draws = s.draws := rfl
@[simp] theorem setRun_outputs (s : State) (r : RunState) : (s.setRun r).outputs = s.outputs := rfl

/-! ### `setIme` -/

@[simp] theorem setIme_regs (s : State) (b : Bool) : (s.setIme b).regs = s.regs := rfl
@[simp] theorem setIme_irq (s : State) (b : Bool) : (s.setIme b).irq = { s.irq with ime := b } := rfl
@[simp] theorem setIme_run (s : State) (b : Bool) : (s.setIme b).run = s.run := rfl
@[simp] theorem setIme_mems (s : State) (b : Bool) : (s.setIme b).mems = s.mems := rfl
@[simp] theorem setIme_svbk (s : State) (b : Bool) : (s.setIme b).svbk = s.svbk := rfl
@[simp] theorem setIme_gfx (s : State) (b : Bool) : (s.setIme b).gfx = s.gfx := rfl
@[simp] theorem setIme_timer (s : State) (b : Bool) : (s.setIme b).timer = s.timer := rfl
@[simp] theorem setIme_dma (s : State) (b : Bool) : (s.setIme b).dma = s.dma := rfl
@[simp] theorem setIme_cart (s : State) (b : Bool) : (s.setIme b).cart = s.cart := rfl
@[simp] theorem setIme_params (s : State) (b : Bool) : (s.setIme b).params = s.params := rfl
@[simp] theorem setIme_draws (s : State) (b : Bool) : (s.setIme b).draws = s.draws := rfl
@[simp] theorem setIme_outputs (s : State) (b : Bool) : (s.setIme b).outputs = s.outputs := rfl

/-! ### `setImePending` -/

@[simp] theorem setImePending_regs (s : State) (b : Bool) : (s.setImePending b).regs = s.regs := rfl
@[simp] theorem setImePending_irq (s : State) (b : Bool) : (s.setImePending b).irq = { s.irq with imePending := b } := rfl
@[simp] theorem setImePending_run (s : State) (b : Bool) : (s.setImePending b).run = s.run := rfl
@[simp] theorem setImePending_mems (s : State) (b : Bool) : (s.setImePending b).mems = s.mems := rfl
@[simp] theorem setImePending_svbk (s : State) (b : Bool) : (s.setImePending b).svbk = s.svbk := rfl
@[simp] theorem setImePending_gfx (s : State) (b : Bool) : (s.setImePending b).gfx = s.gfx := rfl
@[simp] theorem setImePending_timer (s : State) (b : Bool) : (s.setImePending b).timer = s.timer := rfl
@[simp] theorem setImePending_dma (s : State) (b : Bool) : (s.setImePending b).dma = s.dma := rfl
@[simp] theorem setImePending_cart (s : State) (b : Bool) : (s.setImePending b).cart = s.cart := rfl
@[simp] theorem setImePending_params (s : State) (b : Bool) : (s.setImePending b).params = s.params := rfl
@[simp] theorem setImePending_draws (s : State) (b : Bool) : (s.setImePending b).draws = s.draws := rfl
@[simp] theorem setImePending_outputs (s : State) (b : Bool) : (s.setImePending b).outputs = s.outputs := rfl

/-! ### `setIe` -/

@[simp] theorem setIe_regs (s : State) (v : BitVec 5) : (s.setIe v).regs = s.regs := rfl
@[simp] theorem setIe_irq (s : State) (v : BitVec 5) : (s.setIe v).irq = { s.irq with ie := v } := rfl
@[simp] theorem setIe_run (s : State) (v : BitVec 5) : (s.setIe v).run = s.run := rfl
@[simp] theorem setIe_mems (s : State) (v : BitVec 5) : (s.setIe v).mems = s.mems := rfl
@[simp] theorem setIe_svbk (s : State) (v : BitVec 5) : (s.setIe v).svbk = s.svbk := rfl
@[simp] theorem setIe_gfx (s : State) (v : BitVec 5) : (s.setIe v).gfx = s.gfx := rfl
@[simp] theorem setIe_timer (s : State) (v : BitVec 5) : (s.setIe v).timer = s.timer := rfl
@[simp] theorem setIe_dma (s : State) (v : BitVec 5) : (s.setIe v).dma = s.dma := rfl
@[simp] theorem setIe_cart (s : State) (v : BitVec 5) : (s.setIe v).cart = s.cart := rfl
@[simp] theorem setIe_params (s : State) (v : BitVec 5) : (s.setIe v).params = s.params := rfl
@[simp] theorem setIe_draws (s : State) (v : BitVec 5) : (s.setIe v).draws = s.draws := rfl
@[simp] theorem setIe_outputs (s : State) (v : BitVec 5) : (s.setIe v).outputs = s.outputs := rfl

/-! ### `setIf` -/

@[simp] theorem setIf_regs (s : State) (v : BitVec 5) : (s.setIf v).regs = s.regs := rfl
@[simp] theorem setIf_irq (s : State) (v : BitVec 5) : (s.setIf v).irq = { s.irq with flag := v } := rfl
@[simp] theorem setIf_run (s : State) (v : BitVec 5) : (s.setIf v).run = s.run := rfl
@[simp] theorem setIf_mems (s : State) (v : BitVec 5) : (s.setIf v).mems = s.mems := rfl
@[simp] theorem setIf_svbk (s : State) (v : BitVec 5) : (s.setIf v).svbk = s.svbk := rfl
@[simp] theorem setIf_gfx (s : State) (v : BitVec 5) : (s.setIf v).gfx = s.gfx := rfl
@[simp] theorem setIf_timer (s : State) (v : BitVec 5) : (s.setIf v).timer = s.timer := rfl
@[simp] theorem setIf_dma (s : State) (v : BitVec 5) : (s.setIf v).dma = s.dma := rfl
@[simp] theorem setIf_cart (s : State) (v : BitVec 5) : (s.setIf v).cart = s.cart := rfl
@[simp] theorem setIf_params (s : State) (v : BitVec 5) : (s.setIf v).params = s.params := rfl
@[simp] theorem setIf_draws (s : State) (v : BitVec 5) : (s.setIf v).draws = s.draws := rfl
@[simp] theorem setIf_outputs (s : State) (v : BitVec 5) : (s.setIf v).outputs = s.outputs := rfl

/-! ### `request` -/

@[simp] theorem request_regs (s : State) (i : Nat) : (s.request i).regs = s.regs := rfl
@[simp] theorem request_irq (s : State) (i : Nat) : (s.request i).irq = { s.irq with flag := s.irq.flag ||| sourceBit i } := rfl
@[simp] theorem request_run (s : State) (i : Nat) : (s.request i).run = s.run := rfl
@[simp] theorem request_mems (s : State) (i : Nat) : (s.request i).mems = s.mems := rfl
@[simp] theorem request_svbk (s : State) (i : Nat) : (s.request i).svbk = s.svbk := rfl
@[simp] theorem request_gfx (s : State) (i : Nat) : (s.request i).gfx = s.gfx := rfl
@[simp] theorem request_timer (s : State) (i : Nat) : (s.request i).timer = s.timer := rfl
@[simp] theorem request_dma (s : State) (i : Nat) : (s.request i).dma = s.dma := rfl
@[simp] theorem request_cart (s : State) (i : Nat) : (s.request i).cart = s.cart := rfl
@[simp] theorem request_params (s : State) (i : Nat) : (s.request i).params = s.params := rfl
@[simp] theorem request_draws (s : State) (i : Nat) : (s.request i).draws = s.draws := rfl
@[simp] theorem request_outputs (s : State) (i : Nat) : (s.request i).outputs = s.outputs := rfl

/-! ### `clearRequest` -/

@[simp] theorem clearRequest_regs (s : State) (i : Nat) : (s.clearRequest i).regs = s.regs := rfl
@[simp] theorem clearRequest_irq (s : State) (i : Nat) : (s.clearRequest i).irq = { s.irq with flag := s.irq.flag &&& ~~~sourceBit i } := rfl
@[simp] theorem clearRequest_run (s : State) (i : Nat) : (s.clearRequest i).run = s.run := rfl
@[simp] theorem clearRequest_mems (s : State) (i : Nat) : (s.clearRequest i).mems = s.mems := rfl
@[simp] theorem clearRequest_svbk (s : State) (i : Nat) : (s.clearRequest i).svbk = s.svbk := rfl
@[simp] theorem clearRequest_gfx (s : State) (i : Nat) : (s.clearRequest i).gfx = s.gfx := rfl
@[simp] theorem clearRequest_timer (s : State) (i : Nat) : (s.clearRequest i).timer = s.timer := rfl
@[simp] theorem clearRequest_dma (s : State) (i : Nat) : (s.clearRequest i).dma = s.dma := rfl
@[simp] theorem clearRequest_cart (s : State) (i : Nat) : (s.clearRequest i).cart = s.cart := rfl
@[simp] theorem clearRequest_params (s : State) (i : Nat) : (s.clearRequest i).params = s.params := rfl
@[simp] theorem clearRequest_draws (s : State) (i : Nat) : (s.clearRequest i).draws = s.draws := rfl
@[simp] theorem clearRequest_outputs (s : State) (i : Nat) : (s.clearRequest i).outputs = s.outputs := rfl

/-! ### `emit` -/

@[simp] theorem emit_regs (s : State) (o : Output) : (s.emit o).regs = s.regs := rfl
@[simp] theorem emit_irq (s : State) (o : Output) : (s.emit o).irq = s.irq := rfl
@[simp] theorem emit_run (s : State) (o : Output) : (s.emit o).run = s.run := rfl
@[simp] theorem emit_mems (s : State) (o : Output) : (s.emit o).mems = s.mems := rfl
@[simp] theorem emit_svbk (s : State) (o : Output) : (s.emit o).svbk = s.svbk := rfl
@[simp] theorem emit_gfx (s : State) (o : Output) : (s.emit o).gfx = s.gfx := rfl
@[simp] theorem emit_timer (s : State) (o : Output) : (s.emit o).timer = s.timer := rfl
@[simp] theorem emit_dma (s : State) (o : Output) : (s.emit o).dma = s.dma := rfl
@[simp] theorem emit_cart (s : State) (o : Output) : (s.emit o).cart = s.cart := rfl
@[simp] theorem emit_params (s : State) (o : Output) : (s.emit o).params = s.params := rfl
@[simp] theorem emit_draws (s : State) (o : Output) : (s.emit o).draws = s.draws := rfl
@[simp] theorem emit_outputs (s : State) (o : Output) : (s.emit o).outputs = s.outputs ++ [o] := rfl

/-! ### `nextDraw` -/

@[simp] theorem nextDraw_regs (s : State) : s.nextDraw.regs = s.regs := rfl
@[simp] theorem nextDraw_irq (s : State) : s.nextDraw.irq = s.irq := rfl
@[simp] theorem nextDraw_run (s : State) : s.nextDraw.run = s.run := rfl
@[simp] theorem nextDraw_mems (s : State) : s.nextDraw.mems = s.mems := rfl
@[simp] theorem nextDraw_svbk (s : State) : s.nextDraw.svbk = s.svbk := rfl
@[simp] theorem nextDraw_gfx (s : State) : s.nextDraw.gfx = s.gfx := rfl
@[simp] theorem nextDraw_timer (s : State) : s.nextDraw.timer = s.timer := rfl
@[simp] theorem nextDraw_dma (s : State) : s.nextDraw.dma = s.dma := rfl
@[simp] theorem nextDraw_cart (s : State) : s.nextDraw.cart = s.cart := rfl
@[simp] theorem nextDraw_params (s : State) : s.nextDraw.params = s.params := rfl
@[simp] theorem nextDraw_draws (s : State) : s.nextDraw.draws = s.draws + 1 := rfl
@[simp] theorem nextDraw_outputs (s : State) : s.nextDraw.outputs = s.outputs := rfl

/-! ### `writeMem` -/

@[simp] theorem writeMem_regs (s : State) (r : Region) (k : Nat) (v : Byte) : (s.writeMem r k v).regs = s.regs := rfl
@[simp] theorem writeMem_irq (s : State) (r : Region) (k : Nat) (v : Byte) : (s.writeMem r k v).irq = s.irq := rfl
@[simp] theorem writeMem_run (s : State) (r : Region) (k : Nat) (v : Byte) : (s.writeMem r k v).run = s.run := rfl
@[simp] theorem writeMem_mems (s : State) (r : Region) (k : Nat) (v : Byte) : (s.writeMem r k v).mems = s.mems.write r k v := rfl
@[simp] theorem writeMem_svbk (s : State) (r : Region) (k : Nat) (v : Byte) : (s.writeMem r k v).svbk = s.svbk := rfl
@[simp] theorem writeMem_gfx (s : State) (r : Region) (k : Nat) (v : Byte) : (s.writeMem r k v).gfx = s.gfx := rfl
@[simp] theorem writeMem_timer (s : State) (r : Region) (k : Nat) (v : Byte) : (s.writeMem r k v).timer = s.timer := rfl
@[simp] theorem writeMem_dma (s : State) (r : Region) (k : Nat) (v : Byte) : (s.writeMem r k v).dma = s.dma := rfl
@[simp] theorem writeMem_cart (s : State) (r : Region) (k : Nat) (v : Byte) : (s.writeMem r k v).cart = s.cart := rfl
@[simp] theorem writeMem_params (s : State) (r : Region) (k : Nat) (v : Byte) : (s.writeMem r k v).params = s.params := rfl
@[simp] theorem writeMem_draws (s : State) (r : Region) (k : Nat) (v : Byte) : (s.writeMem r k v).draws = s.draws := rfl
@[simp] theorem writeMem_outputs (s : State) (r : Region) (k : Nat) (v : Byte) : (s.writeMem r k v).outputs = s.outputs := rfl

/-! ### `setDma` -/

@[simp] theorem setDma_regs (s : State) (d : Dma) : (s.setDma d).regs = s.regs := rfl
@[simp] theorem setDma_irq (s : State) (d : Dma) : (s.setDma d).irq = s.irq := rfl
@[simp] theorem setDma_run (s : State) (d : Dma) : (s.setDma d).run = s.run := rfl
@[simp] theorem setDma_mems (s : State) (d : Dma) : (s.setDma d).mems = s.mems := rfl
@[simp] theorem setDma_svbk (s : State) (d : Dma) : (s.setDma d).svbk = s.svbk := rfl
@[simp] theorem setDma_gfx (s : State) (d : Dma) : (s.setDma d).gfx = s.gfx := rfl
@[simp] theorem setDma_timer (s : State) (d : Dma) : (s.setDma d).timer = s.timer := rfl
@[simp] theorem setDma_dma (s : State) (d : Dma) : (s.setDma d).dma = d := rfl
@[simp] theorem setDma_cart (s : State) (d : Dma) : (s.setDma d).cart = s.cart := rfl
@[simp] theorem setDma_params (s : State) (d : Dma) : (s.setDma d).params = s.params := rfl
@[simp] theorem setDma_draws (s : State) (d : Dma) : (s.setDma d).draws = s.draws := rfl
@[simp] theorem setDma_outputs (s : State) (d : Dma) : (s.setDma d).outputs = s.outputs := rfl

/-! ### `setGfx` -/

@[simp] theorem setGfx_regs (s : State) (g : Graphics) : (s.setGfx g).regs = s.regs := rfl
@[simp] theorem setGfx_irq (s : State) (g : Graphics) : (s.setGfx g).irq = s.irq := rfl
@[simp] theorem setGfx_run (s : State) (g : Graphics) : (s.setGfx g).run = s.run := rfl
@[simp] theorem setGfx_mems (s : State) (g : Graphics) : (s.setGfx g).mems = s.mems := rfl
@[simp] theorem setGfx_svbk (s : State) (g : Graphics) : (s.setGfx g).svbk = s.svbk := rfl
@[simp] theorem setGfx_gfx (s : State) (g : Graphics) : (s.setGfx g).gfx = g := rfl
@[simp] theorem setGfx_timer (s : State) (g : Graphics) : (s.setGfx g).timer = s.timer := rfl
@[simp] theorem setGfx_dma (s : State) (g : Graphics) : (s.setGfx g).dma = s.dma := rfl
@[simp] theorem setGfx_cart (s : State) (g : Graphics) : (s.setGfx g).cart = s.cart := rfl
@[simp] theorem setGfx_params (s : State) (g : Graphics) : (s.setGfx g).params = s.params := rfl
@[simp] theorem setGfx_draws (s : State) (g : Graphics) : (s.setGfx g).draws = s.draws := rfl
@[simp] theorem setGfx_outputs (s : State) (g : Graphics) : (s.setGfx g).outputs = s.outputs := rfl

/-! ### `setTimer` -/

@[simp] theorem setTimer_regs (s : State) (t : Timer) : (s.setTimer t).regs = s.regs := rfl
@[simp] theorem setTimer_irq (s : State) (t : Timer) : (s.setTimer t).irq = s.irq := rfl
@[simp] theorem setTimer_run (s : State) (t : Timer) : (s.setTimer t).run = s.run := rfl
@[simp] theorem setTimer_mems (s : State) (t : Timer) : (s.setTimer t).mems = s.mems := rfl
@[simp] theorem setTimer_svbk (s : State) (t : Timer) : (s.setTimer t).svbk = s.svbk := rfl
@[simp] theorem setTimer_gfx (s : State) (t : Timer) : (s.setTimer t).gfx = s.gfx := rfl
@[simp] theorem setTimer_timer (s : State) (t : Timer) : (s.setTimer t).timer = t := rfl
@[simp] theorem setTimer_dma (s : State) (t : Timer) : (s.setTimer t).dma = s.dma := rfl
@[simp] theorem setTimer_cart (s : State) (t : Timer) : (s.setTimer t).cart = s.cart := rfl
@[simp] theorem setTimer_params (s : State) (t : Timer) : (s.setTimer t).params = s.params := rfl
@[simp] theorem setTimer_draws (s : State) (t : Timer) : (s.setTimer t).draws = s.draws := rfl
@[simp] theorem setTimer_outputs (s : State) (t : Timer) : (s.setTimer t).outputs = s.outputs := rfl

/-! ### Pairs -/

@[simp] theorem setPair_irq (s : State) (p : Pair) (v : Word) : (s.setPair p v).irq = s.irq := by
  cases p <;> rfl
@[simp] theorem setPair_run (s : State) (p : Pair) (v : Word) : (s.setPair p v).run = s.run := by
  cases p <;> rfl
@[simp] theorem setPair_mems (s : State) (p : Pair) (v : Word) : (s.setPair p v).mems = s.mems := by
  cases p <;> rfl
@[simp] theorem setPair_svbk (s : State) (p : Pair) (v : Word) : (s.setPair p v).svbk = s.svbk := by
  cases p <;> rfl
@[simp] theorem setPair_gfx (s : State) (p : Pair) (v : Word) : (s.setPair p v).gfx = s.gfx := by
  cases p <;> rfl
@[simp] theorem setPair_timer (s : State) (p : Pair) (v : Word) : (s.setPair p v).timer = s.timer := by
  cases p <;> rfl
@[simp] theorem setPair_dma (s : State) (p : Pair) (v : Word) : (s.setPair p v).dma = s.dma := by
  cases p <;> rfl
@[simp] theorem setPair_cart (s : State) (p : Pair) (v : Word) : (s.setPair p v).cart = s.cart := by
  cases p <;> rfl
@[simp] theorem setPair_params (s : State) (p : Pair) (v : Word) : (s.setPair p v).params = s.params := by
  cases p <;> rfl
@[simp] theorem setPair_draws (s : State) (p : Pair) (v : Word) : (s.setPair p v).draws = s.draws := by
  cases p <;> rfl
@[simp] theorem setPair_outputs (s : State) (p : Pair) (v : Word) : (s.setPair p v).outputs = s.outputs := by
  cases p <;> rfl
@[simp] theorem setStackPair_irq (s : State) (p : StackPair) (v : Word) : (s.setStackPair p v).irq = s.irq := by
  cases p <;> rfl
@[simp] theorem setStackPair_run (s : State) (p : StackPair) (v : Word) : (s.setStackPair p v).run = s.run := by
  cases p <;> rfl
@[simp] theorem setStackPair_mems (s : State) (p : StackPair) (v : Word) : (s.setStackPair p v).mems = s.mems := by
  cases p <;> rfl
@[simp] theorem setStackPair_svbk (s : State) (p : StackPair) (v : Word) : (s.setStackPair p v).svbk = s.svbk := by
  cases p <;> rfl
@[simp] theorem setStackPair_gfx (s : State) (p : StackPair) (v : Word) : (s.setStackPair p v).gfx = s.gfx := by
  cases p <;> rfl
@[simp] theorem setStackPair_timer (s : State) (p : StackPair) (v : Word) : (s.setStackPair p v).timer = s.timer := by
  cases p <;> rfl
@[simp] theorem setStackPair_dma (s : State) (p : StackPair) (v : Word) : (s.setStackPair p v).dma = s.dma := by
  cases p <;> rfl
@[simp] theorem setStackPair_cart (s : State) (p : StackPair) (v : Word) : (s.setStackPair p v).cart = s.cart := by
  cases p <;> rfl
@[simp] theorem setStackPair_params (s : State) (p : StackPair) (v : Word) : (s.setStackPair p v).params = s.params := by
  cases p <;> rfl
@[simp] theorem setStackPair_draws (s : State) (p : StackPair) (v : Word) : (s.setStackPair p v).draws = s.draws := by
  cases p <;> rfl
@[simp] theorem setStackPair_outputs (s : State) (p : StackPair) (v : Word) : (s.setStackPair p v).outputs = s.outputs := by
  cases p <;> rfl
@[simp] theorem postModify_irq (s : State) (m : AddrMode) : (s.postModify m).irq = s.irq := by
  cases m <;> rfl
@[simp] theorem postModify_run (s : State) (m : AddrMode) : (s.postModify m).run = s.run := by
  cases m <;> rfl
@[simp] theorem postModify_mems (s : State) (m : AddrMode) : (s.postModify m).mems = s.mems := by
  cases m <;> rfl
@[simp] theorem postModify_svbk (s : State) (m : AddrMode) : (s.postModify m).svbk = s.svbk := by
  cases m <;> rfl
@[simp] theorem postModify_gfx (s : State) (m : AddrMode) : (s.postModify m).gfx = s.gfx := by
  cases m <;> rfl
@[simp] theorem postModify_timer (s : State) (m : AddrMode) : (s.postModify m).timer = s.timer := by
  cases m <;> rfl
@[simp] theorem postModify_dma (s : State) (m : AddrMode) : (s.postModify m).dma = s.dma := by
  cases m <;> rfl
@[simp] theorem postModify_cart (s : State) (m : AddrMode) : (s.postModify m).cart = s.cart := by
  cases m <;> rfl
@[simp] theorem postModify_params (s : State) (m : AddrMode) : (s.postModify m).params = s.params := by
  cases m <;> rfl
@[simp] theorem postModify_draws (s : State) (m : AddrMode) : (s.postModify m).draws = s.draws := by
  cases m <;> rfl
@[simp] theorem postModify_outputs (s : State) (m : AddrMode) : (s.postModify m).outputs = s.outputs := by
  cases m <;> rfl

/-! ### Registers -/

@[simp] theorem write_B (g : Regs) (v : Byte) : g.write .B v = { g with b := v } := rfl
@[simp] theorem write_C (g : Regs) (v : Byte) : g.write .C v = { g with c := v } := rfl
@[simp] theorem write_D (g : Regs) (v : Byte) : g.write .D v = { g with d := v } := rfl
@[simp] theorem write_E (g : Regs) (v : Byte) : g.write .E v = { g with e := v } := rfl
@[simp] theorem write_H (g : Regs) (v : Byte) : g.write .H v = { g with h := v } := rfl
@[simp] theorem write_L (g : Regs) (v : Byte) : g.write .L v = { g with l := v } := rfl
@[simp] theorem write_A (g : Regs) (v : Byte) : g.write .A v = { g with a := v } := rfl
@[simp] theorem write_f (g : Regs) (r : Reg8) (v : Byte) : (g.write r v).f = g.f := by cases r <;> rfl
@[simp] theorem write_sp (g : Regs) (r : Reg8) (v : Byte) : (g.write r v).sp = g.sp := by cases r <;> rfl
@[simp] theorem write_pc (g : Regs) (r : Reg8) (v : Byte) : (g.write r v).pc = g.pc := by cases r <;> rfl

@[simp] theorem reg_setReg_same (s : State) (r : Reg8) (v : Byte) : (s.setReg r v).reg r = v := by cases r <;> rfl

theorem reg_setReg_other (s : State) {r q : Reg8} (v : Byte) (h : q ≠ r) : (s.setReg r v).reg q = s.reg q := by
  cases r <;> cases q <;> first | rfl | exact absurd rfl h

@[simp] theorem flags_setReg (s : State) (r : Reg8) (v : Byte) : (s.setReg r v).flags = s.flags := by
  simp [State.flags]

@[simp] theorem readF_setReg (s : State) (r : Reg8) (v : Byte) : (s.setReg r v).readF = s.readF := by
  simp [State.readF]

@[simp] theorem reg_setFlags (s : State) (fl : Flags) (r : Reg8) : (s.setFlags fl).reg r = s.reg r := by
  cases r <;> rfl

@[simp] theorem reg_setPc (s : State) (v : Word) (r : Reg8) : (s.setPc v).reg r = s.reg r := by cases r <;> rfl
@[simp] theorem reg_setSp (s : State) (v : Word) (r : Reg8) : (s.setSp v).reg r = s.reg r := by cases r <;> rfl

/-- The flags read back (rule R12). -/
@[simp] theorem flags_setFlags (s : State) (fl : Flags) : (s.setFlags fl).flags = fl := by
  rcases fl with ⟨_ | _, _ | _, _ | _, _ | _⟩ <;> simp [State.flags] <;> decide

/-- `F[3:0]` is zero in every byte of flags (rule R12). -/
@[simp] theorem toByte_low (fl : Flags) : fl.toByte &&& 0x0F = 0 := by
  rcases fl with ⟨_ | _, _ | _, _ | _, _ | _⟩ <;> rfl

/-- A byte written to `F` loses its low nibble (rule R12). -/
@[simp] theorem masked_low (v : Byte) : (v &&& 0xF0) &&& 0x0F = 0 := by
  rw [BitVec.and_assoc]; simp

/-- A 16-bit value is its two halves (rule R11). -/
@[simp] theorem hi_append_lo (v : Word) : (hiByte v ++ loByte v : BitVec (8 + 8)) = v := by
  apply BitVec.eq_of_getLsbD_eq
  intro i hi
  rw [hiByte, loByte, BitVec.getLsbD_append, BitVec.getLsbD_extractLsb', BitVec.getLsbD_extractLsb']
  by_cases h : i < 8
  · simp [h]
  · simp [h, show 8 + (i - 8) = i by omega, show i - 8 < 8 by omega]

@[simp] theorem hiByte_append (h l : Byte) : hiByte ((h ++ l : BitVec (8 + 8))) = h := by
  apply BitVec.eq_of_getLsbD_eq
  intro i hi
  rw [hiByte, BitVec.getLsbD_extractLsb', BitVec.getLsbD_append]
  simp [hi]

@[simp] theorem loByte_append (h l : Byte) : loByte ((h ++ l : BitVec (8 + 8))) = l := by
  apply BitVec.eq_of_getLsbD_eq
  intro i hi
  rw [loByte, BitVec.getLsbD_extractLsb', BitVec.getLsbD_append]
  simp [hi]

@[simp] theorem pair_setPair (s : State) (p : Pair) (v : Word) : (s.setPair p v).pair p = v := by
  cases p with
  | BC => exact hi_append_lo v
  | DE => exact hi_append_lo v
  | HL => exact hi_append_lo v
  | SP => rfl

@[simp] theorem hl_setHl (s : State) (v : Word) : (s.setHl v).hl = v := hi_append_lo v

@[simp] theorem hl_setFlags (s : State) (fl : Flags) : (s.setFlags fl).hl = s.hl := rfl

end Sys2Proof.Machine
end

