-- ==== Sys2Proof/Laws/Alu.lean ====
section
/-! SUPPORT. The ALU functions as arithmetic on numbers (rules R171 to R175, R214, R220, R224, R230): one lemma per
function, result and flags together. -/

namespace Sys2Proof.Machine

/-! ### Flags as a byte -/

theorem toByte_eq_flagByte (fl : Flags) : fl.toByte = flagByte fl.z fl.n fl.h fl.c := by
  obtain ⟨z, n, h, c⟩ := fl
  cases z <;> cases n <;> cases h <;> cases c <;> rfl

/-- What a write of the four flags does (rule R12). -/
theorem setFlags_eq (s : State) (fl : Flags) :
    s.setFlags fl = { s with regs := { s.regs with f := flagByte fl.z fl.n fl.h fl.c } } := by
  rw [← toByte_eq_flagByte]
  rfl

theorem setFlags_f (s : State) (fl : Flags) : (s.setFlags fl).regs.f = flagByte fl.z fl.n fl.h fl.c := by
  rw [setFlags_eq]

/-- The condition field reads the flags (rule R106). -/
theorem condHolds_eq_cond (s : State) (cc : Cond) : condHolds s.regs.f cc = s.cond cc := by
  cases cc <;> rfl

/-! ### Bits of sums and differences -/

theorem getLsbD_eq_decide {w : Nat} (a : BitVec w) (k : Nat) : a.getLsbD k = decide (a.toNat / 2 ^ k % 2 = 1) := by
  rw [BitVec.getLsbD, Nat.testBit_eq_decide_div_mod_eq]

theorem xor_decide (p q r : Prop) [Decidable p] [Decidable q] [Decidable r] :
    ((decide p ^^ decide q) ^^ decide r) = decide ((p ↔ q) ↔ r) := by
  by_cases p <;> by_cases q <;> by_cases r <;> simp_all

theorem beq_zero_eq_decide (b : Byte) : (b == 0) = decide (b.toNat = 0) := by
  rw [beq_eq_decide]
  congr 1
  rw [← BitVec.toNat_inj]
  rfl

theorem carryIn_toNat (c : Bool) : (carryIn 9 c).toNat = c.toNat := by
  cases c <;> rfl

theorem setWidth9_toNat (a : Byte) : (a.setWidth 9).toNat = a.toNat := by
  have := a.isLt
  rw [BitVec.toNat_setWidth]
  omega

theorem setWidth17_toNat (a : Word) : (a.setWidth 17).toNat = a.toNat := by
  have := a.isLt
  rw [BitVec.toNat_setWidth]
  omega

/-! ### 8-bit arithmetic -/

/-- `Add8` (rule R172). -/
theorem add8_spec (a b : Byte) (c : Bool) :
    (add8 a b c).1.toNat = (a.toNat + b.toNat + c.toNat) % 256 ∧
    (add8 a b c).2 =
      { z := decide ((a.toNat + b.toNat + c.toNat) % 256 = 0), n := false,
        h := decide (a.toNat % 16 + b.toNat % 16 + c.toNat > 15), c := decide (a.toNat + b.toNat + c.toNat > 255) } := by
  have ha := a.isLt
  have hb := b.isLt
  have hc : c.toNat ≤ 1 := by cases c <;> decide
  have hraw : (a.setWidth 9 + b.setWidth 9 + carryIn 9 c).toNat = a.toNat + b.toNat + c.toNat := by
    rw [BitVec.toNat_add, BitVec.toNat_add, setWidth9_toNat, setWidth9_toNat, carryIn_toNat]
    omega
  have hres : ((a.setWidth 9 + b.setWidth 9 + carryIn 9 c).setWidth 8 : Byte).toNat =
      (a.toNat + b.toNat + c.toNat) % 256 := by
    rw [BitVec.toNat_setWidth, hraw]
  refine ⟨hres, ?_⟩
  unfold add8
  simp only [Flags.mk.injEq, true_and]
  refine ⟨?_, ?_, ?_⟩
  · rw [beq_zero_eq_decide, hres]
  · rw [BitVec.getLsbD_xor, BitVec.getLsbD_xor, getLsbD_eq_decide, getLsbD_eq_decide, getLsbD_eq_decide, hraw,
      setWidth9_toNat, setWidth9_toNat, xor_decide]
    congr 1
    apply propext
    omega
  · rw [getLsbD_eq_decide, hraw]
    congr 1
    apply propext
    omega

/-- `Sub8` (rule R173). -/
theorem sub8_spec (a b : Byte) (c : Bool) :
    ((sub8 a b c).1.toNat + b.toNat + c.toNat) % 256 = a.toNat ∧
    (sub8 a b c).2 =
      { z := decide ((sub8 a b c).1.toNat = 0), n := true, h := decide (a.toNat % 16 < b.toNat % 16 + c.toNat),
        c := decide (a.toNat < b.toNat + c.toNat) } := by
  have ha := a.isLt
  have hb := b.isLt
  have hc : c.toNat ≤ 1 := by cases c <;> decide
  have hraw : (a.setWidth 9 - b.setWidth 9 - carryIn 9 c).toNat = (a.toNat + 1024 - b.toNat - c.toNat) % 512 := by
    rw [BitVec.toNat_sub, BitVec.toNat_sub, setWidth9_toNat, setWidth9_toNat, carryIn_toNat]
    omega
  have hres : ((a.setWidth 9 - b.setWidth 9 - carryIn 9 c).setWidth 8 : Byte).toNat =
      (a.toNat + 1024 - b.toNat - c.toNat) % 256 := by
    rw [BitVec.toNat_setWidth, hraw]
    omega
  have h1 : (sub8 a b c).1 = (a.setWidth 9 - b.setWidth 9 - carryIn 9 c).setWidth 8 := rfl
  refine ⟨by rw [h1, hres]; omega, ?_⟩
  rw [h1]
  unfold sub8
  simp only [Flags.mk.injEq, true_and]
  refine ⟨beq_zero_eq_decide _, ?_, ?_⟩
  · rw [BitVec.getLsbD_xor, BitVec.getLsbD_xor, getLsbD_eq_decide, getLsbD_eq_decide, getLsbD_eq_decide, hraw,
      setWidth9_toNat, setWidth9_toNat, xor_decide]
    congr 1
    apply propext
    omega
  · rw [BitVec.getLsbD_xor, BitVec.getLsbD_xor, getLsbD_eq_decide, getLsbD_eq_decide, getLsbD_eq_decide, hraw,
      setWidth9_toNat, setWidth9_toNat, xor_decide]
    congr 1
    apply propext
    omega

/-- `Inc8` (rule R175). -/
theorem inc8_spec (a : Byte) (old : Flags) :
    (inc8 a old).1.toNat = (a.toNat + 1) % 256 ∧
    (inc8 a old).2 =
      { z := decide (a.toNat = 255), n := false, h := decide (a.toNat % 16 = 15), c := old.c } := by
  refine ⟨BitVec.toNat_add a 1, ?_⟩
  have h : ∀ a : Byte, (a + 1 == 0) = decide (a.toNat = 255) ∧ (a &&& 0x0F == 0x0F) = decide (a.toNat % 16 = 15) := by
    decide
  simp only [inc8, h a]

/-- `Dec8` (rule R175). -/
theorem dec8_spec (a : Byte) (old : Flags) :
    (dec8 a old).1.toNat = (a.toNat + 255) % 256 ∧
    (dec8 a old).2 = { z := decide (a.toNat = 1), n := true, h := decide (a.toNat % 16 = 0), c := old.c } := by
  have h : ∀ a : Byte, (a - 1).toNat = (a.toNat + 255) % 256 ∧ (a - 1 == 0) = decide (a.toNat = 1) ∧
      (a &&& 0x0F == 0x00) = decide (a.toNat % 16 = 0) := by
    decide
  refine ⟨(h a).1, ?_⟩
  simp only [dec8, h a]

/-- `DAA` (rule R214), for one value of the flags at a time. -/
theorem daa8_spec (a : Byte) (n h c : Bool) :
    let low : Bool := h || (!n && decide (a.toNat % 16 > 9))
    let high : Bool := c || (!n && decide (a.toNat > 0x99))
    let corr := (if low then 6 else 0) + (if high then 96 else 0)
    ∀ z,
      (daa8 a { z := z, n := n, h := h, c := c }).1.toNat = (if n then a.toNat + 256 - corr else a.toNat + corr) % 256 ∧
      (daa8 a { z := z, n := n, h := h, c := c }).2 =
        { z := decide ((daa8 a { z := z, n := n, h := h, c := c }).1.toNat = 0), n := n, h := false, c := high } := by
  cases n <;> cases h <;> cases c <;> (revert a; decide)

/-! ### 16-bit arithmetic -/

/-- `Add16` (rule R220). -/
theorem add16_spec (a b : Word) (old : Flags) :
    (add16 a b old).1.toNat = (a.toNat + b.toNat) % 65536 ∧
    (add16 a b old).2 =
      { z := old.z, n := false, h := decide (a.toNat % 4096 + b.toNat % 4096 > 4095),
        c := decide (a.toNat + b.toNat > 65535) } := by
  have ha := a.isLt
  have hb := b.isLt
  have hraw : (a.setWidth 17 + b.setWidth 17).toNat = a.toNat + b.toNat := by
    rw [BitVec.toNat_add, setWidth17_toNat, setWidth17_toNat]
    omega
  refine ⟨?_, ?_⟩
  · show ((a.setWidth 17 + b.setWidth 17).setWidth 16).toNat = _
    rw [BitVec.toNat_setWidth, hraw]
  · unfold add16
    simp only [Flags.mk.injEq, true_and]
    refine ⟨?_, ?_⟩
    · rw [BitVec.getLsbD_xor, BitVec.getLsbD_xor, getLsbD_eq_decide, getLsbD_eq_decide, getLsbD_eq_decide, hraw,
        setWidth17_toNat, setWidth17_toNat, xor_decide]
      congr 1
      apply propext
      omega
    · rw [getLsbD_eq_decide, hraw]
      congr 1
      apply propext
      omega

/-- The low bits of a displacement are those of its byte (rule R108). -/
theorem displacement_mod (e : Byte) {k : Nat} (hk : k ≤ 8) : (displacement e).toNat % 2 ^ k = e.toNat % 2 ^ k := by
  have h : (e.signExtend 16).setWidth 8 = e := by
    apply BitVec.eq_of_getLsbD_eq
    intro i hi
    simp [BitVec.getLsbD_signExtend, hi]
    omega
  have h2 : (e.signExtend 16).toNat % 256 = e.toNat := by
    simpa [BitVec.toNat_setWidth] using congrArg BitVec.toNat h
  rw [displacement, ← h2, Nat.mod_mod_of_dvd]
  exact pow_dvd_pow 2 hk

/-- `SP` plus a displacement (rules R165, R224). -/
theorem addSp_spec (sp : Word) (e : Byte) :
    addSp sp e = (sp + e.signExtend 16,
      { z := false, n := false, h := decide (sp.toNat % 16 + e.toNat % 16 > 15),
        c := decide (sp.toNat % 256 + e.toNat > 255) }) := by
  have hs := sp.isLt
  have he : e.toNat < 256 := e.isLt
  have hd := (displacement e).isLt
  have d4 := displacement_mod e (k := 4) (by decide)
  have d8 := displacement_mod e (k := 8) (by decide)
  have hraw : (sp.setWidth 17 + (displacement e).setWidth 17).toNat = sp.toNat + (displacement e).toNat := by
    rw [BitVec.toNat_add, setWidth17_toNat, setWidth17_toNat]
    omega
  unfold addSp
  simp only [Prod.mk.injEq, Flags.mk.injEq, true_and]
  refine ⟨?_, ?_, ?_⟩
  · apply BitVec.eq_of_toNat_eq
    rw [BitVec.toNat_setWidth, hraw, BitVec.toNat_add]
    rfl
  · rw [BitVec.getLsbD_xor, BitVec.getLsbD_xor, getLsbD_eq_decide, getLsbD_eq_decide, getLsbD_eq_decide, hraw,
      setWidth17_toNat, setWidth17_toNat, xor_decide]
    congr 1
    apply propext
    omega
  · rw [BitVec.getLsbD_xor, BitVec.getLsbD_xor, getLsbD_eq_decide, getLsbD_eq_decide, getLsbD_eq_decide, hraw,
      setWidth17_toNat, setWidth17_toNat, xor_decide]
    congr 1
    apply propext
    omega

/-! ### Bits -/

/-- The test of a bit (rule R256). -/
theorem testBit_spec (b : Oct) (v : Byte) : (!v.getLsbD b.toNat) = decide (v.toNat / 2 ^ b.toNat % 2 = 0) := by
  rw [getLsbD_eq_decide]
  by_cases h : v.toNat / 2 ^ b.toNat % 2 = 0
  · simp [h]
  · have : v.toNat / 2 ^ b.toNat % 2 = 1 := by omega
    simp [this]

/-- `RES` clears one bit (rule R258). -/
theorem resetBit_spec (b : Oct) (v : Byte) {k : Nat} (hk : k < 8) :
    (resetBit b v).getLsbD k = if k = b.toNat then false else v.getLsbD k := by
  unfold resetBit bitMask
  cases b <;> (revert k; revert v; decide)

/-- `SET` sets one bit (rule R260). -/
theorem setBit_spec (b : Oct) (v : Byte) {k : Nat} (hk : k < 8) :
    (setBit b v).getLsbD k = if k = b.toNat then true else v.getLsbD k := by
  unfold setBit bitMask
  cases b <;> (revert k; revert v; decide)

end Sys2Proof.Machine
end

