-- ==== Sys2Proof/Laws/Memory.lean ====
section
/-! SUPPORT. Memory laws: a read after a write, and every write keeps the canonical form. -/

namespace Sys2Proof.Machine

theorem readCell_writeCell_same (m : Memory) (k : Nat) (v : Byte) : readCell (writeCell m k v) k = some v := by
  induction m with
  | nil => simp [writeCell, readCell]
  | cons c m ih =>
    obtain ⟨a, w⟩ := c
    unfold writeCell
    split_ifs with h₁ h₂
    · simp [readCell]
    · simp [readCell]
    · simp [readCell, ih, Ne.symm h₂]

theorem readCell_writeCell_other (m : Memory) {k j : Nat} (v : Byte) (h : j ≠ k) :
    readCell (writeCell m k v) j = readCell m j := by
  induction m with
  | nil => simp [writeCell, readCell, Ne.symm h]
  | cons c m ih =>
    obtain ⟨a, w⟩ := c
    unfold writeCell
    split_ifs with h₁ h₂
    · simp [readCell, Ne.symm h]
    · subst h₂; simp [readCell, Ne.symm h]
    · simp [readCell, ih]

/-- A cell of the written memory is the written one or a cell of the old memory. -/
theorem mem_writeCell {m : Memory} {k : Nat} {v : Byte} {c : Host.Cell} (h : c ∈ writeCell m k v) :
    c = (k, v) ∨ c ∈ m := by
  induction m with
  | nil => simpa [writeCell] using h
  | cons d m ih =>
    obtain ⟨a, w⟩ := d
    unfold writeCell at h
    split_ifs at h with h₁ h₂
    · simpa using h
    · rcases List.mem_cons.1 h with h | h
      · exact .inl h
      · exact .inr (List.mem_cons_of_mem _ h)
    · rcases List.mem_cons.1 h with h | h
      · exact .inr (by simp [h])
      · exact (ih h).imp_right (List.mem_cons_of_mem _)

/-- A write inside the array keeps the canonical form. -/
theorem writeCell_wf {size k : Nat} {m : Memory} (v : Byte) (hk : k < size) (hm : Memory.wf size m) :
    Memory.wf size (writeCell m k v) := by
  refine ⟨?_, fun c hc => ?_⟩
  · obtain ⟨hm, -⟩ := hm
    induction m with
    | nil => simp [writeCell]
    | cons d m ih =>
      obtain ⟨a, w⟩ := d
      obtain ⟨hd, hm'⟩ := List.pairwise_cons.1 hm
      unfold writeCell
      split_ifs with h₁ h₂
      · refine List.pairwise_cons.2 ⟨fun c hc => ?_, hm⟩
        rcases List.mem_cons.1 hc with rfl | hc
        · exact h₁
        · exact lt_trans h₁ (hd c hc)
      · subst h₂; exact List.pairwise_cons.2 ⟨hd, hm'⟩
      · refine List.pairwise_cons.2 ⟨fun c hc => ?_, ih hm'⟩
        rcases mem_writeCell hc with rfl | hc
        · simp only; omega
        · exact hd c hc
  · rcases mem_writeCell hc with rfl | hc
    · exact hk
    · exact hm.2 c hc

/-- A byte read back from where it was written. -/
@[simp] theorem cellValue_writeCell_same (r : Region) (m : Memory) (k : Nat) (v : Byte) :
    cellValue r (writeCell m k v) k = v := by simp [cellValue, readCell_writeCell_same]

/-- Every other byte is left alone. -/
theorem cellValue_writeCell_other (r : Region) (m : Memory) {k j : Nat} (v : Byte) (h : j ≠ k) :
    cellValue r (writeCell m k v) j = cellValue r m j := by simp [cellValue, readCell_writeCell_other m v h]

/-- The bytes written in a region after a write: nothing writes `rom`, and every other region is left alone. -/
theorem region_writeMem (s : State) (r q : Region) (k : Nat) (v : Byte) :
    (s.writeMem r k v).region q = if q = r ∧ r ≠ .rom then writeCell (s.region r) k v else s.region q := by
  cases r <;> cases q <;> rfl

theorem readMem_writeMem_same (s : State) {r : Region} (hr : r ≠ .rom) (k : Nat) (v : Byte) :
    (s.writeMem r k v).readMem r k = v := by simp [State.readMem, region_writeMem, hr]

theorem readMem_writeMem_other (s : State) {r q : Region} {k j : Nat} (v : Byte) (h : ¬(q = r ∧ j = k)) :
    (s.writeMem r k v).readMem q j = s.readMem q j := by
  rw [State.readMem, region_writeMem]
  split_ifs with hq
  · obtain ⟨rfl, -⟩ := hq
    exact cellValue_writeCell_other _ _ v (by simpa using h)
  · rfl

/-- A write inside a region keeps every region in canonical form. -/
theorem writeMem_wf {s : State} {r : Region} {k : Nat} (v : Byte) (hk : k < regionSize r)
    (h : ∀ q, Memory.wf (regionSize q) (s.region q)) (q : Region) :
    Memory.wf (regionSize q) ((s.writeMem r k v).region q) := by
  rw [region_writeMem]
  split_ifs with hq
  · obtain ⟨rfl, -⟩ := hq
    exact writeCell_wf v hk (h q)
  · exact h q

end Sys2Proof.Machine
end

