-- ==== Sys2Proof/Laws/Bus.lean ====
section
/-! SUPPORT. Bus laws: where addresses lead, what a read depends on, and that devices and writes leave the CPU alone. -/

namespace Sys2Proof.Machine

/-! ### Bounds of cells -/

theorem vbank_le (s : State) : s.vbank ≤ 1 := by
  have := s.gfx.vbk.isLt
  unfold State.vbank
  split <;> omega

theorem wbank_pos (s : State) : 1 ≤ s.wbank := by
  unfold State.wbank
  split_ifs with _ h
  · exact le_refl 1
  · exact Nat.one_le_iff_ne_zero.2 (fun h' => h (BitVec.eq_of_toNat_eq (by simpa using h')))
  · exact le_refl 1

theorem wbank_le (s : State) : s.wbank ≤ 7 := by
  have := s.svbk.isLt
  unfold State.wbank
  split_ifs <;> omega

theorem vramCell_lt (s : State) {off : Nat} (h : off < 8192) : s.vramCell off < 16384 := by
  have := vbank_le s
  unfold State.vramCell
  omega

theorem wramCell_lt (s : State) {off : Nat} (h : off < 4096) : s.wramCell off < 32768 := by
  have := wbank_le s
  unfold State.wramCell
  omega

/-- The offset an address selects lies inside its component (rules R20, R23, R24). -/
theorem decodeAddr_bound (a : Word) :
    match decodeAddr a with
    | .vram off => off < 8192
    | .workFixed off => off < 4096
    | .workBanked off => off < 4096
    | .oam i => i < 160
    | .cartridge | .unusable | .interruptEnable | .io _ => True := by
  have ha := a.isLt
  unfold decodeAddr
  simp only
  split_ifs <;> simp only <;> omega

/-- The address that leads to a component, from the component (rules R51, R59): the inverse of the region table. -/
theorem decodeAddr_range (a : Word) :
    match decodeAddr a with
    | .cartridge => a.toNat ≤ 0x7FFF ∨ (0xA000 ≤ a.toNat ∧ a.toNat ≤ 0xBFFF)
    | .vram off => a.toNat = 0x8000 + off ∧ off < 8192
    | .workFixed off => (a.toNat = 0xC000 + off ∨ a.toNat = 0xE000 + off) ∧ off < 4096
    | .workBanked off => (a.toNat = 0xD000 + off ∨ (a.toNat = 0xF000 + off ∧ off < 0xE00)) ∧ off < 4096
    | .oam i => a.toNat = 0xFE00 + i ∧ i < 160
    | .unusable => 0xFEA0 ≤ a.toNat ∧ a.toNat ≤ 0xFEFF
    | .interruptEnable => a.toNat = 0xFFFF
    | .io n => a.toNat = 0xFF00 + n.toNat ∧ n.toNat < 255 := by
  have ha := a.isLt
  have hn : (a.setWidth 8).toNat = a.toNat % 256 := BitVec.toNat_setWidth ..
  unfold decodeAddr
  simp only
  split_ifs <;> simp only [hn] <;> omega

/-! ### Which component an address selects (rules R51, R59): one lemma per region -/

theorem decodeAddr_rom {a : Word} (h : a.toNat ≤ 0x7FFF) : decodeAddr a = .cartridge := by
  simp only [decodeAddr, h, if_true]

theorem decodeAddr_vram {a : Word} (h : 0x8000 ≤ a.toNat) (h' : a.toNat ≤ 0x9FFF) :
    decodeAddr a = .vram (a.toNat - 0x8000) := by
  simp only [decodeAddr]
  iterate 1 rw [if_neg (by omega)]
  rw [if_pos h']

theorem decodeAddr_cartRam {a : Word} (h : 0xA000 ≤ a.toNat) (h' : a.toNat ≤ 0xBFFF) : decodeAddr a = .cartridge := by
  simp only [decodeAddr]
  iterate 2 rw [if_neg (by omega)]
  rw [if_pos h']

theorem decodeAddr_workFixed {a : Word} (h : 0xC000 ≤ a.toNat) (h' : a.toNat ≤ 0xCFFF) :
    decodeAddr a = .workFixed (a.toNat - 0xC000) := by
  simp only [decodeAddr]
  iterate 3 rw [if_neg (by omega)]
  rw [if_pos h']

theorem decodeAddr_workBanked {a : Word} (h : 0xD000 ≤ a.toNat) (h' : a.toNat ≤ 0xDFFF) :
    decodeAddr a = .workBanked (a.toNat - 0xD000) := by
  simp only [decodeAddr]
  iterate 4 rw [if_neg (by omega)]
  rw [if_pos h']

/-- The echo selects what the address `0x2000` below selects (rule R59). -/
theorem decodeAddr_echo {a : Word} (h : 0xE000 ≤ a.toNat) (h' : a.toNat ≤ 0xFDFF) :
    decodeAddr a = decodeAddr (a - 0x2000) := by
  have ha := a.isLt
  have hs : (a - 0x2000).toNat = a.toNat - 0x2000 := by
    rw [BitVec.toNat_sub, show (0x2000 : Word).toNat = 0x2000 from rfl]
    omega
  by_cases hf : a.toNat ≤ 0xEFFF
  · rw [decodeAddr_workFixed (a := a - 0x2000) (by omega) (by omega), hs]
    simp only [decodeAddr]
    iterate 5 rw [if_neg (by omega)]
    rw [if_pos hf]
  · rw [decodeAddr_workBanked (a := a - 0x2000) (by omega) (by omega), hs]
    simp only [decodeAddr]
    iterate 6 rw [if_neg (by omega)]
    rw [if_pos h']

theorem decodeAddr_oam {a : Word} (h : 0xFE00 ≤ a.toNat) (h' : a.toNat ≤ 0xFE9F) :
    decodeAddr a = .oam (a.toNat - 0xFE00) := by
  simp only [decodeAddr]
  iterate 7 rw [if_neg (by omega)]
  rw [if_pos h']

theorem decodeAddr_unusable {a : Word} (h : 0xFEA0 ≤ a.toNat) (h' : a.toNat ≤ 0xFEFF) : decodeAddr a = .unusable := by
  simp only [decodeAddr]
  iterate 8 rw [if_neg (by omega)]
  rw [if_pos h']

theorem decodeAddr_interruptEnable {a : Word} (h : a.toNat = 0xFFFF) : decodeAddr a = .interruptEnable := by
  have : a = 0xFFFF := BitVec.eq_of_toNat_eq h
  subst this
  decide

theorem decodeAddr_io {a : Word} (h : 0xFF00 ≤ a.toNat) (h' : a.toNat ≤ 0xFFFE) :
    decodeAddr a = .io (a.extractLsb' 0 8) := by
  simp only [decodeAddr]
  iterate 10 rw [if_neg (by omega)]
  rfl

theorem ioReg_highRam_lt (n : Byte) : n.toNat < regionSize .hram := n.isLt

/-! ### What a read depends on -/

/-- Two states that agree outside the registers, the interrupt gates, the run state and the outputs read alike. -/
theorem read8_congr {s t : State} (hm : t.mems = s.mems) (hv : t.svbk = s.svbk) (hg : t.gfx = s.gfx)
    (ht : t.timer = s.timer) (hd : t.dma = s.dma) (hc : t.cart = s.cart) (hp : t.params = s.params)
    (hr : t.draws = s.draws) (hie : t.irq.ie = s.irq.ie) (hif : t.irq.flag = s.irq.flag) (acc : Access) (a : Word) :
    t.read8 acc a = s.read8 acc a := by
  have hreg : ∀ r, t.region r = s.region r := by intro r; cases r <;> simp [State.region, hm, hc]
  have hmem : ∀ r k, t.readMem r k = s.readMem r k := by intro r k; simp [State.readMem, hreg]
  unfold State.read8
  cases decodeAddr a <;>
    simp only [State.readCartridge, State.vramCell, State.wramCell, State.vbank, State.wbank, State.ioRead,
      State.readStat, hmem, hv, hg, ht, hd, hc, hp, hr, hie, hif]

theorem read8_regs (s : State) (g : Regs) (acc : Access) (a : Word) :
    ({ s with regs := g } : State).read8 acc a = s.read8 acc a := read8_congr rfl rfl rfl rfl rfl rfl rfl rfl rfl rfl acc a

@[simp] theorem read8_setReg (s : State) (r : Reg8) (v : Byte) (acc : Access) (a : Word) :
    (s.setReg r v).read8 acc a = s.read8 acc a := read8_regs s _ acc a
@[simp] theorem read8_setFlags (s : State) (fl : Flags) (acc : Access) (a : Word) :
    (s.setFlags fl).read8 acc a = s.read8 acc a := read8_regs s _ acc a
@[simp] theorem read8_writeF (s : State) (v : Byte) (acc : Access) (a : Word) :
    (s.writeF v).read8 acc a = s.read8 acc a := read8_regs s _ acc a
@[simp] theorem read8_setPc (s : State) (v : Word) (acc : Access) (a : Word) :
    (s.setPc v).read8 acc a = s.read8 acc a := read8_regs s _ acc a
@[simp] theorem read8_setSp (s : State) (v : Word) (acc : Access) (a : Word) :
    (s.setSp v).read8 acc a = s.read8 acc a := read8_regs s _ acc a
@[simp] theorem read8_setBc (s : State) (v : Word) (acc : Access) (a : Word) :
    (s.setBc v).read8 acc a = s.read8 acc a := read8_regs s _ acc a
@[simp] theorem read8_setDe (s : State) (v : Word) (acc : Access) (a : Word) :
    (s.setDe v).read8 acc a = s.read8 acc a := read8_regs s _ acc a
@[simp] theorem read8_setHl (s : State) (v : Word) (acc : Access) (a : Word) :
    (s.setHl v).read8 acc a = s.read8 acc a := read8_regs s _ acc a
@[simp] theorem read8_setAf (s : State) (v : Word) (acc : Access) (a : Word) :
    (s.setAf v).read8 acc a = s.read8 acc a := read8_regs s _ acc a
@[simp] theorem read8_setIme (s : State) (b : Bool) (acc : Access) (a : Word) :
    (s.setIme b).read8 acc a = s.read8 acc a := read8_congr rfl rfl rfl rfl rfl rfl rfl rfl rfl rfl acc a
@[simp] theorem read8_setImePending (s : State) (b : Bool) (acc : Access) (a : Word) :
    (s.setImePending b).read8 acc a = s.read8 acc a := read8_congr rfl rfl rfl rfl rfl rfl rfl rfl rfl rfl acc a
@[simp] theorem read8_setRun (s : State) (r : RunState) (acc : Access) (a : Word) :
    (s.setRun r).read8 acc a = s.read8 acc a := read8_congr rfl rfl rfl rfl rfl rfl rfl rfl rfl rfl acc a
@[simp] theorem read8_emit (s : State) (o : Output) (acc : Access) (a : Word) :
    (s.emit o).read8 acc a = s.read8 acc a := read8_congr rfl rfl rfl rfl rfl rfl rfl rfl rfl rfl acc a

end Sys2Proof.Machine
end

