-- ==== Sys2Proof/Laws/Devices.lean ====
section
/-! SUPPORT. What the devices and a bus write leave alone: the registers, the run state, the two interrupt gates and the
parameters (rules R326, R330: nothing but the CPU writes them). -/

namespace Sys2Proof.Machine

/-- The part of the state that no device and no bus write touches. -/
structure CpuSame (s t : State) : Prop where
  regs : t.regs = s.regs
  run : t.run = s.run
  ime : t.irq.ime = s.irq.ime
  imePending : t.irq.imePending = s.irq.imePending
  params : t.params = s.params

theorem CpuSame.refl (s : State) : CpuSame s s := ⟨rfl, rfl, rfl, rfl, rfl⟩

theorem CpuSame.trans {s t u : State} (h : CpuSame s t) (k : CpuSame t u) : CpuSame s u :=
  ⟨k.regs.trans h.regs, k.run.trans h.run, k.ime.trans h.ime, k.imePending.trans h.imePending, k.params.trans h.params⟩

theorem cpuSame_foldl {α : Type} (f : State → α → State) (hf : ∀ t x, CpuSame t (f t x)) (l : List α) (s : State) :
    CpuSame s (l.foldl f s) := by
  induction l generalizing s with
  | nil => exact .refl s
  | cons x l ih => exact (hf s x).trans (ih _)

theorem cpuSame_writeMem (s : State) (r : Region) (k : Nat) (v : Byte) : CpuSame s (s.writeMem r k v) :=
  ⟨rfl, rfl, rfl, rfl, rfl⟩

theorem cpuSame_setGfx (s : State) (g : Graphics) : CpuSame s (s.setGfx g) := ⟨rfl, rfl, rfl, rfl, rfl⟩
theorem cpuSame_setTimer (s : State) (t : Timer) : CpuSame s (s.setTimer t) := ⟨rfl, rfl, rfl, rfl, rfl⟩
theorem cpuSame_setDma (s : State) (d : Dma) : CpuSame s (s.setDma d) := ⟨rfl, rfl, rfl, rfl, rfl⟩
theorem cpuSame_emit (s : State) (o : Output) : CpuSame s (s.emit o) := ⟨rfl, rfl, rfl, rfl, rfl⟩
theorem cpuSame_setIf (s : State) (v : BitVec 5) : CpuSame s (s.setIf v) := ⟨rfl, rfl, rfl, rfl, rfl⟩
theorem cpuSame_setIe (s : State) (v : BitVec 5) : CpuSame s (s.setIe v) := ⟨rfl, rfl, rfl, rfl, rfl⟩
theorem cpuSame_request (s : State) (i : Nat) : CpuSame s (s.request i) := ⟨rfl, rfl, rfl, rfl, rfl⟩
theorem cpuSame_nextDraw (s : State) : CpuSame s s.nextDraw := ⟨rfl, rfl, rfl, rfl, rfl⟩

/-! ### DMA -/

theorem cpuSame_oamDma (v : Byte) (s : State) : CpuSame s (oamDma v s) :=
  .trans (.trans (cpuSame_setDma s { s.dma with oamdma := v }) (cpuSame_foldl _ (fun t i => cpuSame_writeMem t .oam i _) _ _))
    (cpuSame_nextDraw _)

theorem cpuSame_vramDmaCopy (base n : Nat) (s : State) : CpuSame s (vramDmaCopy base n s) :=
  .trans (cpuSame_foldl _ (fun t _ => cpuSame_writeMem t .vram _ _) _ s) (cpuSame_nextDraw _)

theorem cpuSame_hdma5Write (v : Byte) (s : State) : CpuSame s (hdma5Write v s) := by
  unfold hdma5Write
  simp only
  split_ifs
  · exact cpuSame_setDma _ _
  · exact cpuSame_setDma _ _
  · exact (cpuSame_vramDmaCopy _ _ _).trans (cpuSame_setDma _ _)

theorem cpuSame_dmaHBlank (s : State) : CpuSame s (dmaHBlank s) := by
  unfold dmaHBlank
  simp only
  split_ifs
  · exact (cpuSame_vramDmaCopy _ _ _).trans (cpuSame_setDma _ _)
  · exact (cpuSame_vramDmaCopy _ _ _).trans (cpuSame_setDma _ _)
  · exact .refl s

/-! ### Graphics -/

theorem cpuSame_statusRequest (e : Bool) (s : State) : CpuSame s (statusRequest e s) := by
  unfold statusRequest
  split
  · exact cpuSame_request _ _
  · exact .refl s

theorem cpuSame_coincidenceCheck (s : State) : CpuSame s (coincidenceCheck s) :=
  (cpuSame_setGfx s _).trans (cpuSame_statusRequest _ _)

theorem cpuSame_setScanline (n : Byte) (s : State) : CpuSame s (setScanline n s) :=
  (cpuSame_setGfx s _).trans (cpuSame_coincidenceCheck _)

theorem cpuSame_hblankEvent (s : State) : CpuSame s (hblankEvent s) :=
  (cpuSame_emit s _).trans (cpuSame_dmaHBlank _)

theorem cpuSame_setMode (m : Mode) (s : State) : CpuSame s (setMode m s) := by
  cases m with
  | transfer => exact cpuSame_setGfx s _
  | hblank =>
    exact .trans (.trans (.trans (cpuSame_setGfx s _) (cpuSame_emit _ _)) (cpuSame_statusRequest _ _)) (cpuSame_hblankEvent _)
  | vblank =>
    exact .trans (.trans (.trans (cpuSame_setGfx s _) (cpuSame_emit _ _)) (cpuSame_request _ _)) (cpuSame_statusRequest _ _)
  | oamScan => exact (cpuSame_setGfx s _).trans (cpuSame_statusRequest _ _)

theorem cpuSame_hblankExit (s : State) : CpuSame s (hblankExit s) := by
  unfold hblankExit
  simp only
  split_ifs
  · exact (cpuSame_setScanline _ s).trans (cpuSame_setMode _ _)
  · exact (cpuSame_setScanline _ s).trans (cpuSame_setMode _ _)

theorem cpuSame_vblankLine (s : State) : CpuSame s (vblankLine s) := by
  unfold vblankLine
  split_ifs
  · exact (cpuSame_setScanline _ s).trans (cpuSame_setMode _ _)
  · exact cpuSame_setScanline _ s

theorem cpuSame_modeEnd (s : State) : CpuSame s (modeEnd s) := by
  unfold modeEnd
  split
  · exact cpuSame_setMode _ s
  · exact cpuSame_setMode _ s
  · exact cpuSame_hblankExit s
  · exact cpuSame_vblankLine s

@[simp] theorem setScanline_params (n : Byte) (s : State) : (setScanline n s).params = s.params :=
  (cpuSame_setScanline n s).params
@[simp] theorem setMode_params (m : Mode) (s : State) : (setMode m s).params = s.params := (cpuSame_setMode m s).params
@[simp] theorem modeEnd_params (s : State) : (modeEnd s).params = s.params := (cpuSame_modeEnd s).params

theorem cpuSame_graphicsLoop (fuel : Nat) (s : State) : CpuSame s (graphicsLoop fuel s) := by
  induction fuel generalizing s with
  | zero => exact .refl s
  | succ n ih =>
    unfold graphicsLoop
    split_ifs
    · exact .trans (.trans (cpuSame_setGfx s _) (cpuSame_modeEnd _)) (ih _)
    · exact .refl s

theorem cpuSame_graphicsStep (n : Nat) (s : State) : CpuSame s (graphicsStep n s) := by
  unfold graphicsStep
  simp only
  split_ifs
  · exact (cpuSame_setGfx s _).trans (cpuSame_graphicsLoop _ _)
  · exact .refl s

theorem cpuSame_setControl (v : Byte) (s : State) : CpuSame s (setControl v s) := by
  unfold setControl
  simp only
  split_ifs
  · exact .trans (.trans (cpuSame_setGfx s _) (cpuSame_emit _ .blankFrame)) (cpuSame_setGfx _ _)
  · exact (cpuSame_setGfx s _).trans (cpuSame_coincidenceCheck _)
  · exact cpuSame_setGfx s _

/-! ### Timer -/

theorem cpuSame_timaTick (s : State) : CpuSame s (timaTick s) := by
  unfold timaTick
  split_ifs
  · exact (cpuSame_setTimer s _).trans (cpuSame_request _ _)
  · exact cpuSame_setTimer s _

theorem cpuSame_timaTicks (n : Nat) (s : State) : CpuSame s (timaTicks n s) := by
  induction n generalizing s with
  | zero => exact .refl s
  | succ n ih => exact (cpuSame_timaTick s).trans (ih _)

theorem cpuSame_timerStep (n : Nat) (s : State) : CpuSame s (timerStep n s) := by
  have hd : CpuSame s (divStep n s) := cpuSame_setTimer s _
  refine hd.trans ?_
  unfold timerStep timaStep
  simp only
  split_ifs
  · exact (cpuSame_setTimer _ _).trans (cpuSame_timaTicks _ _)
  · exact .refl _

/-! ### The bus and the broadcast -/

theorem cpuSame_ioWrite (n v : Byte) (s : State) : CpuSame s (ioWrite n v s) := by
  unfold ioWrite
  split
  case h_1 => exact cpuSame_emit s _
  case h_2 => exact .refl s
  case h_8 => exact cpuSame_emit s _
  case h_9 => exact cpuSame_setControl v s
  case h_13 => exact .refl s
  case h_15 => exact cpuSame_oamDma v s
  case h_26 => exact cpuSame_hdma5Write v s
  all_goals exact ⟨rfl, rfl, rfl, rfl, rfl⟩

/-- A bus write leaves the registers, the run state, the gates and the parameters alone. -/
theorem cpuSame_write8 (s : State) (a : Word) (v : Byte) : CpuSame s (s.write8 a v) := by
  unfold State.write8
  split
  · unfold State.writeCartridge
    split
    · exact .refl s
    · exact ⟨rfl, rfl, rfl, rfl, rfl⟩
  · exact cpuSame_writeMem s _ _ _
  · exact cpuSame_writeMem s _ _ _
  · exact cpuSame_writeMem s _ _ _
  · exact cpuSame_writeMem s _ _ _
  · exact .refl s
  · exact cpuSame_setIe s _
  · exact cpuSame_ioWrite _ _ s

@[simp] theorem write8_regs (s : State) (a : Word) (v : Byte) : (s.write8 a v).regs = s.regs := (cpuSame_write8 s a v).regs
@[simp] theorem write8_run (s : State) (a : Word) (v : Byte) : (s.write8 a v).run = s.run := (cpuSame_write8 s a v).run
@[simp] theorem write8_ime (s : State) (a : Word) (v : Byte) : (s.write8 a v).irq.ime = s.irq.ime :=
  (cpuSame_write8 s a v).ime
@[simp] theorem write8_imePending (s : State) (a : Word) (v : Byte) : (s.write8 a v).irq.imePending = s.irq.imePending :=
  (cpuSame_write8 s a v).imePending
@[simp] theorem write8_params (s : State) (a : Word) (v : Byte) : (s.write8 a v).params = s.params :=
  (cpuSame_write8 s a v).params

/-- The broadcast leaves the CPU alone. -/
theorem cpuSame_broadcast (n : Nat) (s : State) : CpuSame s (broadcast n s) :=
  .trans (.trans (cpuSame_timerStep n s) (cpuSame_graphicsStep n _)) (cpuSame_emit _ _)

/-- What a push does to the CPU: `SP` is 2 lower and nothing else changes there (rule R160). -/
theorem push16_cpu (v : Word) (s : State) : CpuSame (s.setSp (s.regs.sp - 2)) (push16 v s) := by
  refine ⟨?_, ?_, ?_, ?_, ?_⟩ <;> simp [push16, BitVec.sub_sub]

end Sys2Proof.Machine
end

