-- ==== Sys2Proof/Laws/Graphics.lean ====
section
/-! SUPPORT. What the DMA and graphics operations do to the graphics registers and the DMA registers, and when the loop of
`GraphicsStep` ends (rules R352, R355, R356, R358, R359, R383 to R387). -/

namespace Sys2Proof.Machine

/-- A property kept by every element of a fold is kept by the fold. -/
theorem foldl_keeps {α : Type} (P : State → Prop) (f : State → α → State) (l : List α)
    (hf : ∀ t, ∀ x ∈ l, P t → P (f t x)) {s : State} (h : P s) : P (l.foldl f s) := by
  induction l generalizing s with
  | nil => exact h
  | cons x l ih =>
    exact ih (fun t y hy => hf t y (List.mem_cons_of_mem _ hy)) (hf s x (List.mem_cons_self ..) h)

/-! ### DMA: only memory is written while bytes are copied -/

/-- The parts a byte copy into memory leaves alone. -/
structure CopySame (s t : State) : Prop where
  cpu : CpuSame s t
  gfx : t.gfx = s.gfx
  dma : t.dma = s.dma
  timer : t.timer = s.timer
  cart : t.cart = s.cart
  irq : t.irq = s.irq
  svbk : t.svbk = s.svbk
  outputs : t.outputs = s.outputs

theorem CopySame.refl (s : State) : CopySame s s := ⟨.refl s, rfl, rfl, rfl, rfl, rfl, rfl, rfl⟩

theorem CopySame.trans {s t u : State} (h : CopySame s t) (k : CopySame t u) : CopySame s u :=
  ⟨h.cpu.trans k.cpu, k.gfx.trans h.gfx, k.dma.trans h.dma, k.timer.trans h.timer, k.cart.trans h.cart,
    k.irq.trans h.irq, k.svbk.trans h.svbk, k.outputs.trans h.outputs⟩

theorem copySame_writeMem (s : State) (r : Region) (k : Nat) (v : Byte) : CopySame s (s.writeMem r k v) :=
  ⟨cpuSame_writeMem s r k v, rfl, rfl, rfl, rfl, rfl, rfl, rfl⟩

theorem copySame_nextDraw (s : State) : CopySame s s.nextDraw := ⟨cpuSame_nextDraw s, rfl, rfl, rfl, rfl, rfl, rfl, rfl⟩

theorem copySame_foldl {α : Type} (f : State → α → State) (hf : ∀ t x, CopySame t (f t x)) (l : List α) (s : State) :
    CopySame s (l.foldl f s) :=
  foldl_keeps (CopySame s) f l (fun t x _ h => h.trans (hf t x)) (.refl s)

theorem copySame_vramDmaCopy (base n : Nat) (s : State) : CopySame s (vramDmaCopy base n s) :=
  (copySame_foldl _ (fun t _ => copySame_writeMem t .vram _ _) _ s).trans (copySame_nextDraw _)

/-- An object-attribute DMA writes `OAMDMA` and memory only (rule R380). -/
theorem copySame_oamDma (v : Byte) (s : State) :
    CopySame (s.setDma { s.dma with oamdma := v }) (oamDma v s) :=
  (copySame_foldl _ (fun t _ => copySame_writeMem t .oam _ _) _ _).trans (copySame_nextDraw _)

@[simp] theorem oamDma_gfx (v : Byte) (s : State) : (oamDma v s).gfx = s.gfx := (copySame_oamDma v s).gfx
@[simp] theorem oamDma_timer (v : Byte) (s : State) : (oamDma v s).timer = s.timer := (copySame_oamDma v s).timer
@[simp] theorem oamDma_dma (v : Byte) (s : State) : (oamDma v s).dma = { s.dma with oamdma := v } :=
  (copySame_oamDma v s).dma

@[simp] theorem vramDmaCopy_gfx (base n : Nat) (s : State) : (vramDmaCopy base n s).gfx = s.gfx :=
  (copySame_vramDmaCopy base n s).gfx
@[simp] theorem vramDmaCopy_timer (base n : Nat) (s : State) : (vramDmaCopy base n s).timer = s.timer :=
  (copySame_vramDmaCopy base n s).timer
@[simp] theorem vramDmaCopy_dma (base n : Nat) (s : State) : (vramDmaCopy base n s).dma = s.dma :=
  (copySame_vramDmaCopy base n s).dma

@[simp] theorem vramDmaCopy_irq (base n : Nat) (s : State) : (vramDmaCopy base n s).irq = s.irq :=
  (copySame_vramDmaCopy base n s).irq
@[simp] theorem vramDmaCopy_outputs (base n : Nat) (s : State) : (vramDmaCopy base n s).outputs = s.outputs :=
  (copySame_vramDmaCopy base n s).outputs

@[simp] theorem dmaHBlank_irq (s : State) : (dmaHBlank s).irq = s.irq := by
  unfold dmaHBlank
  simp only
  split_ifs <;> simp

@[simp] theorem dmaHBlank_outputs (s : State) : (dmaHBlank s).outputs = s.outputs := by
  unfold dmaHBlank
  simp only
  split_ifs <;> simp

@[simp] theorem dmaHBlank_gfx (s : State) : (dmaHBlank s).gfx = s.gfx := by
  unfold dmaHBlank
  simp only
  split_ifs <;> simp

@[simp] theorem dmaHBlank_timer (s : State) : (dmaHBlank s).timer = s.timer := by
  unfold dmaHBlank
  simp only
  split_ifs <;> simp

/-- The DMA registers after a horizontal-blank event (rules R385, R386). -/
theorem dmaHBlank_dma (s : State) : (dmaHBlank s).dma =
    if s.dma.active then
      if s.dma.remaining - 1 = 0 then
        { s.dma with block := s.dma.block + 1, remaining := 0, hdma5 := 0xFF, active := false }
      else
        { s.dma with block := s.dma.block + 1, remaining := s.dma.remaining - 1,
                     hdma5 := BitVec.ofNat 8 (s.dma.remaining - 1 - 1) &&& 0x7F }
    else s.dma := by
  unfold dmaHBlank
  simp only [vramDmaCopy_dma]
  split_ifs <;> simp

@[simp] theorem hdma5Write_gfx (v : Byte) (s : State) : (hdma5Write v s).gfx = s.gfx := by
  unfold hdma5Write
  simp only
  split_ifs <;> simp [abortVramDma, armVramDma, immediateCopy]

@[simp] theorem hdma5Write_timer (v : Byte) (s : State) : (hdma5Write v s).timer = s.timer := by
  unfold hdma5Write
  simp only
  split_ifs <;> simp [abortVramDma, armVramDma, immediateCopy]

/-- The DMA registers after a write of `HDMA5` (rules R382 to R384, R387). -/
theorem hdma5Write_dma (v : Byte) (s : State) : (hdma5Write v s).dma =
    if s.dma.active && !v.getLsbD 7 then { s.dma with active := false, hdma5 := s.dma.hdma5 ||| 0x80 }
    else if v.getLsbD 7 then
      { s.dma with remaining := (v &&& 0x7F).toNat + 1, block := 0, active := true, hdma5 := v &&& 0x7F }
    else { s.dma with hdma5 := 0xFF } := by
  unfold hdma5Write
  simp only
  split_ifs <;> simp [abortVramDma, armVramDma, immediateCopy]

/-! ### Graphics: the registers after each operation -/

@[simp] theorem statusRequest_gfx (e : Bool) (s : State) : (statusRequest e s).gfx = s.gfx := by
  cases e <;> rfl

/-- Only `STAT[2]` changes (rule R358). -/
theorem coincidenceCheck_gfx (s : State) : (coincidenceCheck s).gfx = { s.gfx with coinc := s.gfx.ly == s.gfx.lyc } := by
  simp [coincidenceCheck, State.setGfx]

/-- `LY` and `STAT[2]` change (rule R358). -/
theorem setScanline_gfx (n : Byte) (s : State) :
    (setScanline n s).gfx = { s.gfx with ly := n, coinc := n == s.gfx.lyc } := by
  simp [setScanline, coincidenceCheck_gfx, State.setGfx]

theorem hblankEvent_gfx (s : State) : (hblankEvent s).gfx = s.gfx := dmaHBlank_gfx _

/-- Only the mode changes among the graphics registers (rule R359). -/
theorem setMode_gfx (m : Mode) (s : State) : (setMode m s).gfx = { s.gfx with mode := m } := by
  cases m <;> simp [setMode, hblankEvent_gfx]

/-- The graphics registers at the end of a mode (rules R352 to R356). -/
theorem modeEnd_gfx (s : State) : (modeEnd s).gfx =
    match s.gfx.mode with
    | .oamScan => { s.gfx with mode := .transfer }
    | .transfer => { s.gfx with mode := .hblank }
    | .hblank => { s.gfx with ly := s.gfx.ly + 1, coinc := s.gfx.ly + 1 == s.gfx.lyc,
                              mode := if (s.gfx.ly + 1).toNat = s.params.timing.visibleLines then .vblank else .oamScan }
    | .vblank =>
      if s.gfx.ly.toNat = lastLine s.params.timing then { s.gfx with ly := 0, coinc := 0 == s.gfx.lyc, mode := .oamScan }
      else { s.gfx with ly := s.gfx.ly + 1, coinc := s.gfx.ly + 1 == s.gfx.lyc } := by
  unfold modeEnd
  cases h : s.gfx.mode with
  | oamScan => simp [setMode_gfx]
  | transfer => simp [setMode_gfx]
  | hblank =>
    simp only [hblankExit, setScanline_gfx, setScanline_params]
    split_ifs <;> simp [setMode_gfx, setScanline_gfx]
  | vblank =>
    simp only [vblankLine]
    split_ifs <;> simp [setMode_gfx, setScanline_gfx, h]

theorem modeEnd_modeClock (s : State) : (modeEnd s).gfx.modeClock = s.gfx.modeClock := by
  rw [modeEnd_gfx]
  split
  · rfl
  · rfl
  · rfl
  · split_ifs <;> rfl

theorem modeEnd_lcdc (s : State) : (modeEnd s).gfx.lcdc = s.gfx.lcdc := by
  rw [modeEnd_gfx]
  split
  · rfl
  · rfl
  · rfl
  · split_ifs <;> rfl

/-- The loop's state with one budget taken out and the mode ended (rule R352). -/
def turn (s : State) : State := modeEnd (s.setGfx { s.gfx with modeClock := s.gfx.modeClock - s.budget })

@[simp] theorem turn_params (s : State) : (turn s).params = s.params := modeEnd_params _
theorem turn_modeClock (s : State) : (turn s).gfx.modeClock = s.gfx.modeClock - s.budget := modeEnd_modeClock _
theorem turn_lcdc (s : State) : (turn s).gfx.lcdc = s.gfx.lcdc := modeEnd_lcdc _

/-- One turn of the loop (rule R352). -/
theorem graphicsLoop_turn (fuel : Nat) {s : State} (h : s.budget ≤ s.gfx.modeClock) :
    graphicsLoop (fuel + 1) s = graphicsLoop fuel (turn s) := by
  rw [graphicsLoop, if_pos h]
  rfl

/-- The loop is over when the accumulator is below the budget. -/
theorem graphicsLoop_done (fuel : Nat) {s : State} (h : s.gfx.modeClock < s.budget) : graphicsLoop fuel s = s := by
  cases fuel with
  | zero => rfl
  | succ n => rw [graphicsLoop, if_neg (Nat.not_le.2 h)]

/-- The values rule R3 gives the parameters make a machine. -/
theorem legalTiming_default : LegalTiming .default where
  budget := by intro m; cases m <;> decide
  visible := by decide
  vblank := by decide
  lines := by decide
  div := by decide
  tima := by decide

/-- The budget of a legal machine is no less than one cycle. -/
theorem budget_pos {s : State} (hp : LegalTiming s.params.timing) : 1 ≤ s.budget := hp.budget _

/-- A turn of a legal machine takes out at least one cycle, so one unit of fuel less is enough after it. -/
theorem turn_lt {s : State} (hp : LegalTiming s.params.timing) {fuel : Nat} (h : s.gfx.modeClock < fuel + 1)
    (hb : s.budget ≤ s.gfx.modeClock) : (turn s).gfx.modeClock < fuel := by
  have := budget_pos hp
  rw [turn_modeClock]
  omega

/-- With enough fuel the loop ends with the accumulator below the budget (rule R352). -/
theorem graphicsLoop_below (fuel : Nat) {s : State} (hp : LegalTiming s.params.timing) (h : s.gfx.modeClock < fuel) :
    (graphicsLoop fuel s).gfx.modeClock < (graphicsLoop fuel s).budget := by
  induction fuel generalizing s with
  | zero => exact absurd h (Nat.not_lt_zero _)
  | succ n ih =>
    rcases Nat.lt_or_ge s.gfx.modeClock s.budget with hb | hb
    · rwa [graphicsLoop_done _ hb]
    · rw [graphicsLoop_turn n hb]
      exact ih (turn_params s ▸ hp) (turn_lt hp h hb)

/-- After `GraphicsStep` "`mode_clock < Budget(mode)` when the display is enabled" (rule R352). -/
theorem graphicsStep_below (n : Nat) {s : State} (hp : LegalTiming s.params.timing) (h : s.displayOn = true) :
    (graphicsStep n s).gfx.modeClock < (graphicsStep n s).budget := by
  unfold graphicsStep
  simp only [h, if_true]
  exact graphicsLoop_below _ hp (Nat.lt_succ_self _)

/-- More fuel than needed changes nothing. -/
theorem graphicsLoop_fuel (fuel : Nat) {s : State} (hp : LegalTiming s.params.timing) (h : s.gfx.modeClock < fuel)
    (k : Nat) : graphicsLoop (fuel + k) s = graphicsLoop fuel s := by
  induction fuel generalizing s with
  | zero => exact absurd h (Nat.not_lt_zero _)
  | succ n ih =>
    rw [show n + 1 + k = (n + k) + 1 by omega]
    rcases Nat.lt_or_ge s.gfx.modeClock s.budget with hb | hb
    · rw [graphicsLoop_done _ hb, graphicsLoop_done _ hb]
    · rw [graphicsLoop_turn _ hb, graphicsLoop_turn _ hb]
      exact ih (turn_params s ▸ hp) (turn_lt hp h hb)

end Sys2Proof.Machine
end

