-- ==== Sys2Proof/Laws/Clock.lean ====
section
/-! SUPPORT. The graphics engine does not see its accumulator: adding cycles commutes with the end of a mode, so only the
total of the cycles matters (rule R352). -/

namespace Sys2Proof.Machine

/-- `n` cycles added to the accumulator. -/
def addClock (n : Nat) (s : State) : State := s.setGfx { s.gfx with modeClock := s.gfx.modeClock + n }

/-- No bus read shows the accumulator. -/
theorem addClock_read8 (n : Nat) (s : State) (acc : Access) (a : Word) :
    (addClock n s).read8 acc a = s.read8 acc a := by
  unfold State.read8
  cases decodeAddr a <;> rfl

theorem addClock_vramDmaByte (n off : Nat) (s : State) :
    vramDmaByte off (addClock n s) = addClock n (vramDmaByte off s) := by
  unfold vramDmaByte
  rw [addClock_read8]
  rfl

theorem addClock_vramDmaCopy (n base k : Nat) (s : State) :
    vramDmaCopy base k (addClock n s) = addClock n (vramDmaCopy base k s) := by
  have hf : ∀ (l : List Nat) (t : State),
      l.foldl (fun t k => vramDmaByte (base + k) t) (addClock n t) =
        addClock n (l.foldl (fun t k => vramDmaByte (base + k) t) t) := by
    intro l
    induction l with
    | nil => intro t; rfl
    | cons x l ih => intro t; simp only [List.foldl_cons, addClock_vramDmaByte, ih]
  unfold vramDmaCopy
  rw [hf]
  rfl

theorem addClock_dmaHBlank (n : Nat) (s : State) : dmaHBlank (addClock n s) = addClock n (dmaHBlank s) := by
  unfold dmaHBlank
  rw [show (addClock n s).dma = s.dma from rfl, addClock_vramDmaCopy]
  generalize vramDmaCopy (s.dma.block * 16) 16 s = t
  by_cases h : s.dma.active = true
  · simp only [h, if_true]
    show (if t.dma.remaining - 1 = 0 then _ else _) = _
    split <;> rfl
  · simp only [h]
    rfl

theorem addClock_statusRequest (e : Bool) (n : Nat) (s : State) :
    statusRequest e (addClock n s) = addClock n (statusRequest e s) := by
  cases e <;> rfl

theorem setScanline_eq (b : Byte) (s : State) :
    setScanline b s =
      statusRequest ((b == s.gfx.lyc) && s.gfx.lycIe) (s.setGfx { s.gfx with ly := b, coinc := b == s.gfx.lyc }) := rfl

theorem addClock_setScanline (n : Nat) (b : Byte) (s : State) :
    setScanline b (addClock n s) = addClock n (setScanline b s) := by
  rw [setScanline_eq, setScanline_eq, ← addClock_statusRequest]
  rfl

theorem setMode_hblank_eq (s : State) :
    setMode .hblank s =
      dmaHBlank ((statusRequest s.gfx.hblIe
        ((s.setGfx { s.gfx with mode := .hblank }).emit (.scanline s.gfx.ly))).emit .hblankEvent) := rfl

theorem addClock_emit (n : Nat) (s : State) (o : Output) : addClock n (s.emit o) = (addClock n s).emit o := rfl

theorem addClock_setMode (n : Nat) (m : Mode) (s : State) : setMode m (addClock n s) = addClock n (setMode m s) := by
  cases m with
  | transfer => rfl
  | oamScan => exact addClock_statusRequest s.gfx.oamIe n (s.setGfx { s.gfx with mode := .oamScan })
  | vblank =>
    exact addClock_statusRequest s.gfx.vblIe n (((s.setGfx { s.gfx with mode := .vblank }).emit .frame).request 0)
  | hblank =>
    rw [setMode_hblank_eq, setMode_hblank_eq, ← addClock_dmaHBlank, addClock_emit]
    have h := addClock_statusRequest s.gfx.hblIe n
      ((s.setGfx { s.gfx with mode := .hblank }).emit (.scanline s.gfx.ly))
    refine congrArg dmaHBlank ?_
    exact congrArg (fun t => State.emit t .hblankEvent) h

/-- The end of a mode does not see the accumulator. -/
theorem addClock_modeEnd (n : Nat) (s : State) : modeEnd (addClock n s) = addClock n (modeEnd s) := by
  unfold modeEnd
  show (match s.gfx.mode with | .oamScan => _ | .transfer => _ | .hblank => _ | .vblank => _) = _
  cases s.gfx.mode with
  | oamScan => exact addClock_setMode n _ s
  | transfer => exact addClock_setMode n _ s
  | hblank =>
    show hblankExit (addClock n s) = addClock n (hblankExit s)
    unfold hblankExit
    rw [show setScanline ((addClock n s).gfx.ly + 1) (addClock n s) = addClock n (setScanline (s.gfx.ly + 1) s) from
      addClock_setScanline n _ s]
    simp only
    rw [addClock_setMode, addClock_setMode]
    show (if (setScanline (s.gfx.ly + 1) s).gfx.ly.toNat = (setScanline (s.gfx.ly + 1) s).params.timing.visibleLines
      then _ else _) = _
    split <;> rfl
  | vblank =>
    show vblankLine (addClock n s) = addClock n (vblankLine s)
    unfold vblankLine
    show (if s.gfx.ly.toNat = lastLine s.params.timing then _ else setScanline (s.gfx.ly + 1) (addClock n s)) = _
    rw [addClock_setScanline, addClock_setScanline, addClock_setMode]
    split <;> rfl

/-- Any two amounts of fuel that are enough give the same. -/
theorem graphicsLoop_any {f g : Nat} {s : State} (hp : LegalTiming s.params.timing) (hf : s.gfx.modeClock < f)
    (hg : s.gfx.modeClock < g) : graphicsLoop f s = graphicsLoop g s := by
  rcases Nat.le_total f g with h | h
  · obtain ⟨k, rfl⟩ := Nat.exists_eq_add_of_le h
    exact (graphicsLoop_fuel f hp hf k).symm
  · obtain ⟨k, rfl⟩ := Nat.exists_eq_add_of_le h
    exact graphicsLoop_fuel g hp hg k

/-- `GraphicsStep` with the display on: cycles added, and the loop with any sufficient fuel. -/
theorem graphicsStep_on {n f : Nat} {s : State} (hp : LegalTiming s.params.timing) (h : s.displayOn = true)
    (hf : s.gfx.modeClock + n < f) : graphicsStep n s = graphicsLoop f (addClock n s) := by
  unfold graphicsStep
  rw [if_pos h]
  exact graphicsLoop_any (s := addClock n s) hp (Nat.lt_succ_self _) hf

theorem graphicsLoop_lcdc (f : Nat) (s : State) : (graphicsLoop f s).gfx.lcdc = s.gfx.lcdc := by
  induction f generalizing s with
  | zero => rfl
  | succ f ih =>
    unfold graphicsLoop
    split_ifs
    · exact (ih _).trans (turn_lcdc s)
    · rfl

theorem graphicsLoop_modeClock_le (f : Nat) (s : State) : (graphicsLoop f s).gfx.modeClock ≤ s.gfx.modeClock := by
  induction f generalizing s with
  | zero => exact le_refl _
  | succ f ih =>
    unfold graphicsLoop
    split_ifs
    · exact (ih (turn s)).trans ((turn_modeClock s).trans_le (Nat.sub_le _ _))
    · exact le_refl _

/-- The status request as one update (rules R361, R363). -/
theorem statusRequest_eq (b : Bool) (s : State) :
    statusRequest b s = { s with irq := { s.irq with flag := s.irq.flag ||| (if b then 2#5 else 0#5) } } := by
  cases b
  · show s = { s with irq := { s.irq with flag := s.irq.flag ||| 0#5 } }
    rw [BitVec.or_zero]
  · rfl

end Sys2Proof.Machine
end

