-- ==== Sys2Proof/Laws/Store.lean ====
section
/-! SUPPORT. What a bus write and a push do, said once (rules R53, R73, R160). -/

namespace Sys2Proof.Machine

/-- Where a plain address leads, the write is a write of that byte. -/
theorem write8_of_cell {s : State} {a : Word} {r : Region} {k : Nat} (h : s.cellOf a = some (r, k)) (v : Byte) :
    s.write8 a v = s.writeMem r k v := by
  unfold State.cellOf at h
  unfold State.write8
  split at h <;> rename_i heq
  · rw [heq]; simp only [Option.some.injEq, Prod.mk.injEq] at h; rw [← h.1, ← h.2]
  · rw [heq]; simp only [Option.some.injEq, Prod.mk.injEq] at h; rw [← h.1, ← h.2]
  · rw [heq]; simp only [Option.some.injEq, Prod.mk.injEq] at h; rw [← h.1, ← h.2]
  · rw [heq]; simp only [Option.some.injEq, Prod.mk.injEq] at h; rw [← h.1, ← h.2]
  · rw [heq]
    split_ifs at h with hi
    simp only [Option.some.injEq, Prod.mk.injEq] at h
    simp only [ioWrite, hi]
    rw [← h.1, ← h.2]
  all_goals simp at h

/-- Where a plain address leads, the read is a read of that byte. -/
theorem read8_of_cell {s : State} {a : Word} {r : Region} {k : Nat} (h : s.cellOf a = some (r, k)) (acc : Access) :
    s.read8 acc a = s.readMem r k := by
  unfold State.cellOf at h
  unfold State.read8
  split at h <;> rename_i heq
  · rw [heq]; simp only [Option.some.injEq, Prod.mk.injEq] at h; rw [← h.1, ← h.2]
  · rw [heq]; simp only [Option.some.injEq, Prod.mk.injEq] at h; rw [← h.1, ← h.2]
  · rw [heq]; simp only [Option.some.injEq, Prod.mk.injEq] at h; rw [← h.1, ← h.2]
  · rw [heq]; simp only [Option.some.injEq, Prod.mk.injEq] at h; rw [← h.1, ← h.2]
  · rw [heq]
    split_ifs at h with hi
    simp only [Option.some.injEq, Prod.mk.injEq] at h
    simp only [State.ioRead, hi]
    rw [← h.1, ← h.2]
  all_goals simp at h

/-- The region of a plain address is none of the palette memories and not the ROM. -/
theorem cellOf_region {s : State} {a : Word} {r : Region} {k : Nat} (h : s.cellOf a = some (r, k)) :
    r = .vram ∨ r = .wram ∨ r = .oam ∨ r = .hram := by
  unfold State.cellOf at h
  split at h <;> try split_ifs at h
  all_goals simp only [Option.some.injEq, Prod.mk.injEq, reduceCtorEq] at h
  all_goals obtain ⟨rfl, -⟩ := h; simp

@[simp] theorem cellOf_writeMem (s : State) (r : Region) (k : Nat) (v : Byte) (a : Word) :
    (s.writeMem r k v).cellOf a = s.cellOf a := rfl

/-- A write of one plain byte leaves what every other address reads as. -/
theorem read8_writeMem_other {s : State} {r : Region} {k : Nat} (hr : r = .vram ∨ r = .wram ∨ r = .oam ∨ r = .hram)
    (v : Byte) {b : Word} (h : s.cellOf b ≠ some (r, k)) (acc : Access) :
    (s.writeMem r k v).read8 acc b = s.read8 acc b := by
  by_cases hc : ∃ c, s.cellOf b = some c
  · obtain ⟨⟨q, j⟩, hc⟩ := hc
    rw [read8_of_cell hc, read8_of_cell (s := s.writeMem r k v) hc]
    refine readMem_writeMem_other s v fun hqj => h ?_
    rw [hc, hqj.1, hqj.2]
  · have pal : ∀ q j, q ≠ r → (s.writeMem r k v).readMem q j = s.readMem q j := fun q j hq =>
      readMem_writeMem_other s v fun hqj => hq hqj.1
    unfold State.cellOf at hc
    unfold State.read8
    split at hc <;> rename_i heq
    all_goals try exact absurd ⟨_, rfl⟩ hc
    · rw [heq]
      split_ifs at hc with hi
      · exact absurd ⟨_, rfl⟩ hc
      · simp only [State.ioRead]
        split
        case h_28 => exact pal _ _ (by rcases hr with rfl | rfl | rfl | rfl <;> decide)
        case h_30 => exact pal _ _ (by rcases hr with rfl | rfl | rfl | rfl <;> decide)
        all_goals first | rfl | (rename_i hh; exact absurd hh hi)
    · rw [heq]
      simp only [State.readCartridge, writeMem_cart]
      split
      · split_ifs
        · exact pal _ _ (by rcases hr with rfl | rfl | rfl | rfl <;> decide)
        · rfl
      · rfl
    · rw [heq]
    · rw [heq]; rfl

/-- What a bus write does (rules R53, R72, R73). -/
theorem stored_write8 (s : State) (a : Word) (v : Byte) : Stored a v s (s.write8 a v) where
  effect := rfl
  regs := write8_regs s a v
  run := write8_run s a v
  ime := write8_ime s a v
  imePending := write8_imePending s a v
  here := fun ⟨r, k⟩ hc acc => by
    rw [write8_of_cell hc, read8_of_cell (s := s.writeMem r k v) hc]
    refine readMem_writeMem_same s ?_ k v
    rcases cellOf_region hc with rfl | rfl | rfl | rfl <;> decide
  others := fun ⟨r, k⟩ hc acc b hb => by
    rw [write8_of_cell hc]
    exact read8_writeMem_other (cellOf_region hc) v hb acc
  memoryOnly := fun ⟨r, k⟩ hc => by rw [write8_of_cell hc]; rfl

/-- What a push does (rule R160). -/
theorem pushed_push16 (v : Word) (s : State) : Pushed v s (push16 v s) := by
  have hsp : ((s.setSp (s.regs.sp - 1)).write8 (s.regs.sp - 1) (hiByte v)).regs.sp - 1 = s.regs.sp - 2 := by
    simp [BitVec.sub_sub]
  have e : push16 v s =
      (((s.setSp (s.regs.sp - 1)).write8 (s.regs.sp - 1) (hiByte v)).setSp (s.regs.sp - 2)).write8 (s.regs.sp - 2)
        (loByte v) := by
    simp [push16, BitVec.sub_sub]
  refine ⟨(s.setSp (s.regs.sp - 1)).write8 (s.regs.sp - 1) (hiByte v), stored_write8 _ _ _, ?_, ?_⟩
  · rw [e, hsp]
    exact stored_write8 _ _ _
  · rw [e]
    simp

/-! ### Frames of register writes, and the stack -/

/-- A change of the register file alone leaves every byte of memory as it was. -/
theorem regFrame_of {w : List Reg8} {s t : State} (h : ∀ r, r ∉ w → t.reg r = s.reg r) (ht : t = { s with regs := t.regs }) :
    RegFrame w s t :=
  ⟨h, ht, fun acc a => by rw [ht]; exact read8_regs s _ acc a⟩

theorem regFrame_setReg (s : State) (r : Reg8) (v : Byte) : RegFrame [r] s (s.setReg r v) :=
  regFrame_of (fun _ hq => reg_setReg_other _ _ (by simpa using hq)) rfl

theorem regFrame_setReg_setFlags (s : State) (r : Reg8) (v : Byte) (fl : Flags) :
    RegFrame [r] s ((s.setReg r v).setFlags fl) :=
  regFrame_of (fun _ hq => by rw [reg_setFlags]; exact reg_setReg_other _ _ (by simpa using hq)) rfl

theorem addr_sub_one (a : Word) : (a - 1).toNat = if a.toNat = 0 then 65535 else a.toNat - 1 := by
  have ha := a.isLt
  rw [BitVec.toNat_sub]
  simp
  split <;> omega

/-- Two neighbouring addresses are never aliases (rules R35, R59). -/
theorem cellOf_adjacent {s : State} {a : Word} {c : Region × Nat} (h1 : s.cellOf a = some c) :
    s.cellOf (a - 1) ≠ some c := by
  have ha := a.isLt
  have hs := addr_sub_one a
  have w1 := wbank_pos s
  have r1 := decodeAddr_range a
  have r2 := decodeAddr_range (a - 1)
  intro h2
  rw [← h1] at h2
  unfold State.cellOf at h1 h2
  cases d1 : decodeAddr a <;> cases d2 : decodeAddr (a - 1) <;> rw [d1] at h1 h2 r1 <;> rw [d2] at h2 r2 <;>
    simp only [reduceCtorEq] at h1 h2 r1 r2
  all_goals try split_ifs at h1 h2
  all_goals simp only [State.vramCell, State.wramCell, Option.some.injEq, Prod.mk.injEq, reduceCtorEq, true_and,
    false_and] at h1 h2
  all_goals rw [hs] at r2
  all_goals split at r2 <;> omega

end Sys2Proof.Machine
end

