-- ==== Sys2Proof/Laws/Dma.lean ====
section
/-! SUPPORT. The two copies of the DMA engine, byte by byte (rules R380, R381, R383, R385). -/

namespace Sys2Proof.Machine

/-- Where the source of an object-attribute DMA is itself in `OAM`, byte `i` is copied onto itself. -/
theorem oamDma_source_cell (s : State) (v : Byte) {i j : Nat} (hi : i < 160)
    (h : s.cellOf (BitVec.ofNat 16 (v.toNat * 256 + i)) = some (.oam, j)) : j = i := by
  have hv := v.isLt
  have hr := decodeAddr_range (BitVec.ofNat 16 (v.toNat * 256 + i))
  have hn : (BitVec.ofNat 16 (v.toNat * 256 + i)).toNat = v.toNat * 256 + i := by
    rw [BitVec.toNat_ofNat]
    omega
  unfold State.cellOf at h
  split at h <;> rename_i heq <;> rw [heq] at hr <;> try split_ifs at h
  all_goals simp at h
  simp only [hn] at hr
  omega

/-- The first `n` bytes of an object-attribute DMA. -/
theorem oamDma_prefix (v : Byte) (n : Nat) (s : State) (hn : n ≤ 160) :
    let t := (List.range n).foldl
      (fun t i => t.writeMem .oam i (t.read8 (.oamDma i) (BitVec.ofNat 16 (v.toNat * 256 + i)))) s
    (∀ i, i < n → t.readMem .oam i = s.read8 (.oamDma i) (BitVec.ofNat 16 (v.toNat * 256 + i))) ∧
    (∀ acc b, (∀ j, j < n → s.cellOf b ≠ some (.oam, j)) → t.read8 acc b = s.read8 acc b) ∧
    t = { s with mems := { s.mems with oam := t.mems.oam } } := by
  induction n with
  | zero => exact ⟨nofun, fun _ _ _ => rfl, rfl⟩
  | succ n ih =>
    obtain ⟨h1, h2, h3⟩ := ih (by omega)
    rw [List.range_succ, List.foldl_append]
    simp only [List.foldl_cons, List.foldl_nil]
    generalize (List.range n).foldl _ s = t at h1 h2 h3 ⊢
    have hc : ∀ b, t.cellOf b = s.cellOf b := fun b => by rw [h3]; rfl
    have hv : t.read8 (.oamDma n) (BitVec.ofNat 16 (v.toNat * 256 + n)) =
        s.read8 (.oamDma n) (BitVec.ofNat 16 (v.toNat * 256 + n)) :=
      h2 _ _ (fun j hj hh => by have := oamDma_source_cell s v (by omega) hh; omega)
    rw [hv]
    refine ⟨fun i hi => ?_, fun acc b hb => ?_, ?_⟩
    · by_cases hin : i = n
      · subst hin
        exact readMem_writeMem_same _ (by decide) _ _
      · rw [readMem_writeMem_other _ _ (fun h => hin h.2)]
        exact h1 i (by omega)
    · rw [read8_writeMem_other (by decide) _ (by rw [hc]; exact hb n (by omega))]
      exact h2 acc b (fun j hj => hb j (by omega))
    · generalize s.read8 _ _ = x
      conv_lhs => rw [h3]
      rfl

/-- A copy into video RAM changes the bytes of video RAM and nothing else. -/
theorem vramDma_frame (base n : Nat) (s : State) :
    let t := (List.range n).foldl (fun t k => vramDmaByte (base + k) t) s
    t = { s with mems := { s.mems with vram := t.mems.vram } } := by
  induction n with
  | zero => rfl
  | succ n ih =>
    rw [List.range_succ, List.foldl_append]
    simp only [List.foldl_cons, List.foldl_nil]
    simp only at ih
    generalize (List.range n).foldl _ s = t at ih ⊢
    have hs : vramDmaByte (base + n) t =
        { t with mems := { t.mems with vram := (vramDmaByte (base + n) t).mems.vram } } := rfl
    generalize vramDmaByte (base + n) t = u at hs ⊢
    rw [hs, ih]

/-- The destination cells of at most 8192 consecutive offsets differ (rule R381). -/
theorem vramDma_dest_inj (s : State) (base : Nat) {k n : Nat} (hk : k < n) (hn : n < 8192) :
    s.vramCell (s.dma.dstOffset (base + k)) ≠ s.vramCell (s.dma.dstOffset (base + n)) := by
  unfold State.vramCell Dma.dstOffset
  omega

/-- A byte of a VRAM DMA is one bus write at its destination address, of the byte the bus reads at its source (rules R381,
R383, R385). -/
theorem vramDmaByte_eq_write8 (off : Nat) (s : State) :
    vramDmaByte off s = s.write8 (s.dma.dstAddr off) (s.read8 (.vramDma off) (s.dma.srcAddr off)) := by
  have hl : s.dma.dstOffset off < 0x2000 := Nat.mod_lt _ (by decide)
  have ha : (s.dma.dstAddr off).toNat = 0x8000 + s.dma.dstOffset off := by
    unfold Dma.dstAddr
    generalize s.dma.dstOffset off = x at hl ⊢
    have hx : 0x8000 + x < 2 ^ 16 := by norm_num; omega
    exact (BitVec.toNat_ofNat _ _).trans (Nat.mod_eq_of_lt hx)
  have hd : decodeAddr (s.dma.dstAddr off) = .vram (s.dma.dstOffset off) := by
    rw [decodeAddr_vram (by omega) (by omega), ha, Nat.add_sub_cancel_left]
  unfold State.write8
  rw [hd]
  rfl

/-- A copy is its bytes one after another: one more byte is one more step of the sequence (rules R383, R385). -/
theorem vramDma_succ (base n : Nat) (s : State) :
    (List.range (n + 1)).foldl (fun t k => vramDmaByte (base + k) t) s =
      vramDmaByte (base + n) ((List.range n).foldl (fun t k => vramDmaByte (base + k) t) s) := by
  rw [List.range_succ, List.foldl_append]
  rfl

end Sys2Proof.Machine
end

