-- ==== Sys2Proof/Laws/Invariant.lean ====
section
/-! SUPPORT. The shared operations keep `CoreInv`. -/

namespace Sys2Proof.Machine

/-- `CoreInv` reads only the memories, the cartridge, `F`, the parameters and the three devices. -/
theorem CoreInv.congr {s t : State} (h : CoreInv s) (hm : t.mems = s.mems) (hc : t.cart = s.cart)
    (hf : t.regs.f = s.regs.f) (hp : t.params = s.params) (hg : t.gfx = s.gfx) (ht : t.timer = s.timer) (hd : t.dma = s.dma) : CoreInv t :=
  ⟨fun r => by
      have : t.region r = s.region r := by cases r <;> simp [State.region, hm, hc]
      rw [this]; exact h.mem r,
    hf ▸ h.flags, hp ▸ h.params, by rw [hg, hp]; exact h.gfx, by rw [ht, hp]; exact h.timer, hd ▸ h.dma⟩

theorem CoreInv.writeMem {s : State} (h : CoreInv s) {r : Region} {k : Nat} (v : Byte) (hk : k < regionSize r) :
    CoreInv (s.writeMem r k v) :=
  ⟨writeMem_wf v hk h.mem, h.flags, h.params, h.gfx, h.timer, h.dma⟩

/-- The parts of `CoreInv` that the graphics registers are not in. -/
structure OtherInv (s : State) : Prop where
  mem : ∀ r : Region, Memory.wf (regionSize r) (s.region r)
  flags : s.regs.f &&& 0x0F = 0
  params : LegalTiming s.params.timing
  timer : s.timer.Legal s.params.timing
  dma : s.dma.Legal

theorem CoreInv.other {s : State} (h : CoreInv s) : OtherInv s := ⟨h.mem, h.flags, h.params, h.timer, h.dma⟩

/-- The two parts make the whole. -/
theorem OtherInv.core {s : State} (h : OtherInv s) (hg : s.gfx.Legal s.params.timing) : CoreInv s :=
  ⟨h.mem, h.flags, h.params, hg, h.timer, h.dma⟩

theorem CoreInv.setGfx {s : State} (h : CoreInv s) {g : Graphics} (hg : g.Legal s.params.timing) : CoreInv (s.setGfx g) :=
  ⟨h.mem, h.flags, h.params, hg, h.timer, h.dma⟩

theorem CoreInv.setTimer {s : State} (h : CoreInv s) {t : Timer} (ht : t.Legal s.params.timing) : CoreInv (s.setTimer t) :=
  ⟨h.mem, h.flags, h.params, h.gfx, ht, h.dma⟩

theorem CoreInv.setDma {s : State} (h : CoreInv s) {d : Dma} (hd : d.Legal) : CoreInv (s.setDma d) :=
  ⟨h.mem, h.flags, h.params, h.gfx, h.timer, hd⟩

theorem CoreInv.emit {s : State} (h : CoreInv s) (o : Output) : CoreInv (s.emit o) := h.congr rfl rfl rfl rfl rfl rfl rfl
theorem CoreInv.setIf {s : State} (h : CoreInv s) (v : BitVec 5) : CoreInv (s.setIf v) := h.congr rfl rfl rfl rfl rfl rfl rfl
theorem CoreInv.setIe {s : State} (h : CoreInv s) (v : BitVec 5) : CoreInv (s.setIe v) := h.congr rfl rfl rfl rfl rfl rfl rfl
theorem CoreInv.request {s : State} (h : CoreInv s) (i : Nat) : CoreInv (s.request i) := h.congr rfl rfl rfl rfl rfl rfl rfl
theorem CoreInv.clearRequest {s : State} (h : CoreInv s) (i : Nat) : CoreInv (s.clearRequest i) :=
  h.congr rfl rfl rfl rfl rfl rfl rfl
theorem CoreInv.setIme {s : State} (h : CoreInv s) (b : Bool) : CoreInv (s.setIme b) := h.congr rfl rfl rfl rfl rfl rfl rfl
theorem CoreInv.setImePending {s : State} (h : CoreInv s) (b : Bool) : CoreInv (s.setImePending b) :=
  h.congr rfl rfl rfl rfl rfl rfl rfl
theorem CoreInv.setRun {s : State} (h : CoreInv s) (r : RunState) : CoreInv (s.setRun r) := h.congr rfl rfl rfl rfl rfl rfl rfl
theorem CoreInv.setPc {s : State} (h : CoreInv s) (v : Word) : CoreInv (s.setPc v) := h.congr rfl rfl rfl rfl rfl rfl rfl
theorem CoreInv.setSp {s : State} (h : CoreInv s) (v : Word) : CoreInv (s.setSp v) := h.congr rfl rfl rfl rfl rfl rfl rfl
theorem CoreInv.nextDraw {s : State} (h : CoreInv s) : CoreInv s.nextDraw := h.congr rfl rfl rfl rfl rfl rfl rfl
theorem CoreInv.setReg {s : State} (h : CoreInv s) (r : Reg8) (v : Byte) : CoreInv (s.setReg r v) :=
  h.congr rfl rfl (by simp) rfl rfl rfl rfl

theorem CoreInv.setFlags {s : State} (h : CoreInv s) (fl : Flags) : CoreInv (s.setFlags fl) :=
  ⟨h.mem, toByte_low fl, h.params, h.gfx, h.timer, h.dma⟩

theorem CoreInv.writeF {s : State} (h : CoreInv s) (v : Byte) : CoreInv (s.writeF v) :=
  ⟨h.mem, masked_low v, h.params, h.gfx, h.timer, h.dma⟩

theorem CoreInv.setHl {s : State} (h : CoreInv s) (v : Word) : CoreInv (s.setHl v) := (h.setReg _ _).setReg _ _

theorem CoreInv.setPair {s : State} (h : CoreInv s) (p : Pair) (v : Word) : CoreInv (s.setPair p v) := by
  cases p with
  | BC => exact (h.setReg _ _).setReg _ _
  | DE => exact (h.setReg _ _).setReg _ _
  | HL => exact (h.setReg _ _).setReg _ _
  | SP => exact h.setSp _

theorem CoreInv.setStackPair {s : State} (h : CoreInv s) (p : StackPair) (v : Word) : CoreInv (s.setStackPair p v) := by
  cases p with
  | BC => exact (h.setReg _ _).setReg _ _
  | DE => exact (h.setReg _ _).setReg _ _
  | HL => exact (h.setReg _ _).setReg _ _
  | AF => exact (h.setReg _ _).writeF _

theorem CoreInv.postModify {s : State} (h : CoreInv s) (m : AddrMode) : CoreInv (s.postModify m) := by
  cases m with
  | hlInc => exact h.setHl _
  | hlDec => exact h.setHl _
  | _ => exact h

/-! ### DMA -/

theorem dstOffset_lt (d : Dma) (off : Nat) : d.dstOffset off < 8192 := Nat.mod_lt _ (by decide)

theorem mask_7F_lt (v : Byte) : (v &&& 0x7F).toNat < 128 := by
  have h := Nat.and_le_right (n := v.toNat) (m := 127)
  have e : (v &&& 0x7F).toNat = v.toNat &&& 127 := BitVec.toNat_and v 0x7F
  omega

theorem ofNat_mask_7F {n : Nat} (h : n < 128) : BitVec.ofNat 8 n &&& 0x7F = BitVec.ofNat 8 n := by
  interval_cases n <;> rfl

@[simp] theorem region_setDma (s : State) (d : Dma) (r : Region) : (s.setDma d).region r = s.region r := by
  cases r <;> rfl

theorem mem_vramDmaCopy {s : State} (h : ∀ r : Region, Memory.wf (regionSize r) (s.region r)) (base n : Nat) :
    ∀ r : Region, Memory.wf (regionSize r) ((vramDmaCopy base n s).region r) := by
  have hf : ∀ r : Region, Memory.wf (regionSize r)
      (((List.range n).foldl (fun t k => vramDmaByte (base + k) t) s).region r) :=
    foldl_keeps (fun t => ∀ r : Region, Memory.wf (regionSize r) (t.region r)) _ _
      (fun t k _ ht => writeMem_wf _ (vramCell_lt _ (dstOffset_lt _ _)) ht) h
  intro r
  have e : (vramDmaCopy base n s).region r =
      ((List.range n).foldl (fun t k => vramDmaByte (base + k) t) s).region r := by cases r <;> rfl
  rw [e]
  exact hf r

theorem mem_dmaHBlank {s : State} (h : ∀ r : Region, Memory.wf (regionSize r) (s.region r)) :
    ∀ r : Region, Memory.wf (regionSize r) ((dmaHBlank s).region r) := by
  intro r
  have hc := mem_vramDmaCopy h (s.dma.block * 16) 16 r
  unfold dmaHBlank
  simp only
  split_ifs
  · rw [region_setDma]; exact hc
  · rw [region_setDma]; exact hc
  · exact h r

/-- The DMA registers stay legal over a horizontal-blank event (rules R385, R386, R388). -/
theorem Dma.Legal.afterHBlank {d : Dma} (h : d.Legal) (act : d.active = true) :
    (if d.remaining - 1 = 0 then
        { d with block := d.block + 1, remaining := 0, hdma5 := 0xFF, active := false }
      else
        { d with block := d.block + 1, remaining := d.remaining - 1,
                 hdma5 := BitVec.ofNat 8 (d.remaining - 1 - 1) &&& 0x7F } : Dma).Legal := by
  have htot := h.total
  have hpos := (h.activeReads act).1
  split_ifs with hr
  · refine ⟨?_, fun hf => absurd hf (by simp), fun _ => by simp⟩
    show d.block + 1 + 0 ≤ 128
    omega
  · refine ⟨?_, fun _ => ⟨?_, ?_⟩, fun hf => absurd act (by simp at hf; simp [hf])⟩
    · show d.block + 1 + (d.remaining - 1) ≤ 128
      omega
    · show 1 ≤ d.remaining - 1
      omega
    · exact ofNat_mask_7F (by omega)

/-- The DMA registers stay legal over a write of `HDMA5` (rules R382 to R384, R387, R388). -/
theorem Dma.Legal.afterHdma5 {d : Dma} (h : d.Legal) (v : Byte) :
    (if d.active && !v.getLsbD 7 then { d with active := false, hdma5 := d.hdma5 ||| 0x80 }
     else if v.getLsbD 7 then
       { d with remaining := (v &&& 0x7F).toNat + 1, block := 0, active := true, hdma5 := v &&& 0x7F }
     else { d with hdma5 := 0xFF } : Dma).Legal := by
  have hv := mask_7F_lt v
  split_ifs with h₁ h₂
  · exact ⟨h.total, fun hf => absurd hf (by simp), fun _ => by simp⟩
  · refine ⟨?_, fun _ => ⟨?_, ?_⟩, fun hf => absurd hf (by simp)⟩
    · show 0 + ((v &&& 0x7F).toNat + 1) ≤ 128
      omega
    · show 1 ≤ (v &&& 0x7F).toNat + 1
      omega
    · simp
  · have hidle : d.active = false := by
      by_contra hc
      simp_all
    exact ⟨h.total, fun hf => absurd hf (by simp [hidle]), fun _ => by simp⟩

theorem OtherInv.dmaHBlank {s : State} (h : OtherInv s) : OtherInv (dmaHBlank s) := by
  refine ⟨mem_dmaHBlank h.mem, ?_, ?_, ?_, ?_⟩
  · rw [(cpuSame_dmaHBlank s).regs]; exact h.flags
  · rw [(cpuSame_dmaHBlank s).params]; exact h.params
  · rw [dmaHBlank_timer, (cpuSame_dmaHBlank s).params]; exact h.timer
  · rw [dmaHBlank_dma]
    by_cases act : s.dma.active = true
    · rw [if_pos act]; exact h.dma.afterHBlank act
    · rw [if_neg act]; exact h.dma

theorem CoreInv.dmaHBlank {s : State} (h : CoreInv s) : CoreInv (dmaHBlank s) :=
  h.other.dmaHBlank.core (by rw [dmaHBlank_gfx, (cpuSame_dmaHBlank s).params]; exact h.gfx)

theorem CoreInv.hdma5Write {s : State} (h : CoreInv s) (v : Byte) : CoreInv (hdma5Write v s) := by
  refine ⟨fun r => ?_, ?_, ?_, ?_, ?_, ?_⟩
  · have hc := mem_vramDmaCopy h.mem 0 (((v &&& 0x7F).toNat + 1) * 16) r
    unfold Sys2Proof.Machine.hdma5Write
    simp only
    split_ifs
    · exact (region_setDma s _ r).symm ▸ h.mem r
    · exact (region_setDma s _ r).symm ▸ h.mem r
    · rw [immediateCopy, region_setDma]; exact hc
  · rw [(cpuSame_hdma5Write v s).regs]; exact h.flags
  · rw [(cpuSame_hdma5Write v s).params]; exact h.params
  · rw [hdma5Write_gfx, (cpuSame_hdma5Write v s).params]; exact h.gfx
  · rw [hdma5Write_timer, (cpuSame_hdma5Write v s).params]; exact h.timer
  · rw [hdma5Write_dma]; exact h.dma.afterHdma5 v

theorem CoreInv.oamDma {s : State} (h : CoreInv s) (v : Byte) : CoreInv (oamDma v s) := by
  have h' : CoreInv { s with dma := { s.dma with oamdma := v } } :=
    h.setDma (d := { s.dma with oamdma := v }) ⟨h.dma.total, h.dma.activeReads, h.dma.idleReads⟩
  exact CoreInv.nextDraw (foldl_keeps CoreInv _ _ (fun t i hi ht => ht.writeMem _ (List.mem_range.1 hi)) h')

/-! ### Timer -/

theorem CoreInv.timaTick {s : State} (h : CoreInv s) : CoreInv (timaTick s) := by
  unfold Sys2Proof.Machine.timaTick
  split_ifs
  · exact (h.setTimer (t := { s.timer with tima := s.timer.tma }) ⟨h.timer.divAcc, h.timer.timaAcc⟩).request _
  · exact h.setTimer (t := { s.timer with tima := s.timer.tima + 1 }) ⟨h.timer.divAcc, h.timer.timaAcc⟩

theorem CoreInv.timaTicks {s : State} (h : CoreInv s) (n : Nat) : CoreInv (timaTicks n s) := by
  induction n generalizing s with
  | zero => exact h
  | succ n ih => exact ih h.timaTick

theorem CoreInv.divStep {s : State} (h : CoreInv s) (n : Nat) : CoreInv (divStep n s) :=
  h.setTimer ⟨Nat.mod_lt _ h.params.div, h.timer.timaAcc⟩

theorem CoreInv.timaStep {s : State} (h : CoreInv s) (n : Nat) : CoreInv (timaStep n s) := by
  unfold Sys2Proof.Machine.timaStep
  simp only
  split_ifs
  · exact CoreInv.timaTicks (h.setTimer
      (t := { s.timer with
        timaAcc := (s.timer.timaAcc + n) % timaPeriod s.params.timing (s.timer.tac.extractLsb' 0 2) })
      ⟨h.timer.divAcc, _, Nat.mod_lt _ (h.params.tima _)⟩) _
  · exact h

theorem CoreInv.timerStep {s : State} (h : CoreInv s) (n : Nat) : CoreInv (timerStep n s) := (h.divStep n).timaStep n

/-! ### Graphics -/

theorem OtherInv.setGfx {s : State} (h : OtherInv s) (g : Graphics) : OtherInv (s.setGfx g) :=
  ⟨h.mem, h.flags, h.params, h.timer, h.dma⟩

theorem OtherInv.emit {s : State} (h : OtherInv s) (o : Output) : OtherInv (s.emit o) := ⟨h.mem, h.flags, h.params, h.timer, h.dma⟩
theorem OtherInv.request {s : State} (h : OtherInv s) (i : Nat) : OtherInv (s.request i) :=
  ⟨h.mem, h.flags, h.params, h.timer, h.dma⟩

theorem OtherInv.statusRequest {s : State} (h : OtherInv s) (e : Bool) : OtherInv (statusRequest e s) := by
  cases e
  · exact h
  · exact h.request 1

theorem OtherInv.coincidenceCheck {s : State} (h : OtherInv s) : OtherInv (coincidenceCheck s) :=
  (h.setGfx _).statusRequest _

theorem OtherInv.setScanline {s : State} (h : OtherInv s) (n : Byte) : OtherInv (setScanline n s) :=
  (h.setGfx _).coincidenceCheck

theorem OtherInv.setMode {s : State} (h : OtherInv s) (m : Mode) : OtherInv (setMode m s) := by
  cases m with
  | transfer => exact h.setGfx _
  | hblank => exact OtherInv.dmaHBlank ((((h.setGfx _).emit _).statusRequest _).emit _)
  | vblank => exact (((h.setGfx _).emit _).request _).statusRequest _
  | oamScan => exact (h.setGfx _).statusRequest _

theorem OtherInv.modeEnd {s : State} (h : OtherInv s) : OtherInv (modeEnd s) := by
  unfold Sys2Proof.Machine.modeEnd
  split
  · exact h.setMode _
  · exact h.setMode _
  · unfold hblankExit
    simp only
    split_ifs
    · exact (h.setScanline _).setMode _
    · exact (h.setScanline _).setMode _
  · unfold vblankLine
    split_ifs
    · exact (h.setScanline _).setMode _
    · exact h.setScanline _

theorem succ_toNat {b : Byte} {n : Nat} (h : b.toNat < n) (hn : n < 256) : (b + 1).toNat = b.toNat + 1 := by
  have e : (b + 1).toNat = (b.toNat + 1) % 256 := BitVec.toNat_add b 1
  omega

/-- The line fits the mode after the end of a mode, if it did before (rules R355, R356). -/
theorem modeEnd_line {s : State} (hp : LegalTiming s.params.timing) (h : s.gfx.lineFits s.params.timing) :
    (modeEnd s).gfx.lineFits s.params.timing := by
  rw [modeEnd_gfx]
  have hv := hp.visible
  have hb := hp.vblank
  have hl := hp.lines
  unfold Graphics.lineFits lastLine at *
  cases hm : s.gfx.mode with
  | oamScan => simpa [hm] using h
  | transfer => simpa [hm] using h
  | hblank =>
    simp only [hm, reduceCtorEq, if_false] at h
    have e := succ_toNat h (by omega)
    by_cases h₁ : (s.gfx.ly + 1).toNat = s.params.timing.visibleLines
    · simp only [h₁, if_true]
      omega
    · simp only [h₁, if_false, reduceCtorEq]
      omega
  | vblank =>
    simp only [hm, if_true] at h
    by_cases h₁ : s.gfx.ly.toNat = s.params.timing.visibleLines + s.params.timing.vblankLines - 1
    · simp only [h₁, if_true, reduceCtorEq, if_false]
      exact hv
    · have e := succ_toNat (Nat.lt_of_le_of_ne h.2 h₁) (by omega)
      simp only [h₁, if_false, hm, if_true]
      omega

/-- What the loop of `GraphicsStep` keeps. -/
structure TurnInv (s : State) : Prop where
  other : OtherInv s
  line : s.gfx.lineFits s.params.timing
  on : s.gfx.lcdc.getLsbD 7 = true

theorem TurnInv.loop {s : State} (h : TurnInv s) (fuel : Nat) : TurnInv (graphicsLoop fuel s) := by
  induction fuel generalizing s with
  | zero => exact h
  | succ n ih =>
    unfold graphicsLoop
    split_ifs
    · refine ih ⟨(h.other.setGfx _).modeEnd, ?_, ?_⟩
      · rw [modeEnd_params]
        exact modeEnd_line h.other.params h.line
      · rw [modeEnd_lcdc]
        exact h.on
    · exact h

theorem CoreInv.graphicsStep {s : State} (h : CoreInv s) (n : Nat) : CoreInv (graphicsStep n s) := by
  by_cases on : s.displayOn = true
  · have hb := graphicsStep_below n h.params on
    have ht : TurnInv (Sys2Proof.Machine.graphicsStep n s) := by
      unfold Sys2Proof.Machine.graphicsStep
      simp only [on, if_true]
      exact TurnInv.loop ⟨h.other.setGfx { s.gfx with modeClock := s.gfx.modeClock + n }, h.gfx.line, on⟩ _
    exact ht.other.core ⟨ht.line, fun _ => hb, fun hoff => absurd (hoff.symm.trans ht.on) Bool.false_ne_true⟩
  · unfold Sys2Proof.Machine.graphicsStep
    simp only [Bool.not_eq_true] at on
    simpa [on] using h

theorem CoreInv.coincidenceCheck {s : State} (h : CoreInv s) : CoreInv (coincidenceCheck s) :=
  h.other.coincidenceCheck.core (by
    rw [coincidenceCheck_gfx, (cpuSame_coincidenceCheck s).params]
    exact ⟨h.gfx.line, h.gfx.clock, h.gfx.held⟩)

theorem CoreInv.setControl {s : State} (h : CoreInv s) (v : Byte) : CoreInv (setControl v s) := by
  unfold Sys2Proof.Machine.setControl
  simp only
  split_ifs with h₁ h₂
  · simp only [Bool.and_eq_true, Bool.not_eq_true'] at h₁
    refine OtherInv.core (((h.other.setGfx _).emit _).setGfx _) ⟨?_, fun hon => ?_, fun _ => ⟨rfl, rfl, rfl⟩⟩
    · exact h.params.visible
    · exact absurd (h₁.2.symm.trans hon) Bool.false_ne_true
  · simp only [Bool.and_eq_true, Bool.not_eq_true'] at h₂
    obtain ⟨hm, hl, hc⟩ := h.gfx.held h₂.1
    refine CoreInv.coincidenceCheck
      (h.setGfx ⟨h.gfx.line, fun _ => ?_, fun hoff => absurd (hoff.symm.trans h₂.2) Bool.false_ne_true⟩)
    rw [hc]
    exact h.params.budget _
  · have same : v.getLsbD 7 = s.gfx.lcdc.getLsbD 7 := by
      simp only [State.displayOn] at h₁ h₂
      generalize v.getLsbD 7 = x at *
      generalize s.gfx.lcdc.getLsbD 7 = y at *
      cases x <;> cases y <;> simp_all
    exact h.setGfx ⟨h.gfx.line, fun hon => h.gfx.clock (same ▸ hon), fun hoff => h.gfx.held (same ▸ hoff)⟩

/-! ### The bus, the stack, the interrupt entry and the broadcast -/

theorem CoreInv.ioWrite {s : State} (h : CoreInv s) (n v : Byte) : CoreInv (ioWrite n v s) := by
  unfold Sys2Proof.Machine.ioWrite
  split
  case h_1 => exact h.emit _
  case h_2 => exact h
  case h_3 => exact h.setTimer ⟨h.params.div, 0, h.params.tima 0⟩
  case h_4 => exact h.setTimer ⟨h.timer.divAcc, h.timer.timaAcc⟩
  case h_5 => exact h.setTimer ⟨h.timer.divAcc, h.timer.timaAcc⟩
  case h_6 => exact h.setTimer ⟨h.timer.divAcc, h.timer.timaAcc⟩
  case h_7 => exact h.setIf _
  case h_8 => exact h.emit _
  case h_9 => exact h.setControl v
  case h_13 => exact h
  case h_15 => exact h.oamDma v
  case h_26 => exact h.hdma5Write v
  case h_28 =>
    exact (h.writeMem v (BitVec.isLt s.gfx.bcps.index)).setGfx ⟨h.gfx.line, h.gfx.clock, h.gfx.held⟩
  case h_30 =>
    exact (h.writeMem v (BitVec.isLt s.gfx.ocps.index)).setGfx ⟨h.gfx.line, h.gfx.clock, h.gfx.held⟩
  case h_31 => exact h.congr rfl rfl rfl rfl rfl rfl rfl
  case h_32 => exact h.writeMem v (ioReg_highRam_lt n)
  all_goals first
    | exact h.setGfx ⟨h.gfx.line, h.gfx.clock, h.gfx.held⟩
    | exact h.setDma ⟨h.dma.total, h.dma.activeReads, h.dma.idleReads⟩

theorem CoreInv.write8 {s : State} (h : CoreInv s) (a : Word) (v : Byte) : CoreInv (s.write8 a v) := by
  have hb := decodeAddr_bound a
  unfold State.write8
  split <;> rename_i heq
  · unfold State.writeCartridge
    split <;> rename_i hc
    · exact h
    · refine ⟨fun r => ?_, h.flags, h.params, h.gfx, h.timer, h.dma⟩
      have hr := h.mem r
      cases r <;> simpa [State.region, Cartridge.image, hc] using hr
  · rw [heq] at hb; exact h.writeMem v (vramCell_lt s hb)
  · rw [heq] at hb; exact h.writeMem v (Nat.lt_trans hb (by decide))
  · rw [heq] at hb; exact h.writeMem v (wramCell_lt s hb)
  · rw [heq] at hb; exact h.writeMem v hb
  · exact h
  · exact h.setIe _
  · exact h.ioWrite _ v

theorem CoreInv.push16 {s : State} (h : CoreInv s) (v : Word) : CoreInv (push16 v s) :=
  (((h.setSp _).write8 _ _).setSp _).write8 _ _

theorem CoreInv.dispatch {s : State} (h : CoreInv s) (i : Nat) : CoreInv (dispatch i s) :=
  (((h.clearRequest i).setIme false).push16 _).setPc _

theorem CoreInv.wake {s : State} (h : CoreInv s) : CoreInv (wake s) := by
  unfold Sys2Proof.Machine.wake
  split_ifs
  · exact h.setRun _
  · exact h

theorem CoreInv.serviceInterrupts {s : State} (h : CoreInv s) : CoreInv (serviceInterrupts s) := by
  unfold Sys2Proof.Machine.serviceInterrupts
  simp only
  have hd : CoreInv (if s.dispatches then Sys2Proof.Machine.dispatch s.firstSource s else s) := by
    split_ifs
    · exact h.dispatch _
    · exact h
  split_ifs at hd ⊢ <;> first
    | exact hd.wake.setImePending false
    | exact hd.setImePending false

theorem CoreInv.broadcast {s : State} (h : CoreInv s) (n : Nat) : CoreInv (broadcast n s) :=
  ((h.timerStep n).graphicsStep n).emit _

/-- After phases 2 and 3 the whole invariant holds (rule R309). -/
theorem CoreInv.finishStep {s : State} (h : CoreInv s) (n : Nat) : Inv (finishStep n s) :=
  ⟨h.serviceInterrupts.broadcast _, (cpuSame_broadcast _ _).imePending⟩

end Sys2Proof.Machine
end

