-- ==== Sys2Proof/Laws/Meanings.lean ====
section
/-! SUPPORT. What each shared meaning leaves alone, and that each keeps `CoreInv`: one lemma per operation, to be cited
where all instructions are taken case by case. -/

namespace Sys2Proof.Machine

/-! ### What an instruction may leave alone -/

/-- The run state, the two interrupt gates and the parameters are unchanged. -/
structure GatesSame (s t : State) : Prop where
  run : t.run = s.run
  ime : t.irq.ime = s.irq.ime
  imePending : t.irq.imePending = s.irq.imePending
  params : t.params = s.params

theorem GatesSame.refl (s : State) : GatesSame s s := ⟨rfl, rfl, rfl, rfl⟩

theorem GatesSame.trans {s t u : State} (h : GatesSame s t) (k : GatesSame t u) : GatesSame s u :=
  ⟨k.run.trans h.run, k.ime.trans h.ime, k.imePending.trans h.imePending, k.params.trans h.params⟩

theorem CpuSame.gates {s t : State} (h : CpuSame s t) : GatesSame s t := ⟨h.run, h.ime, h.imePending, h.params⟩

/-- The gates and `PC` are unchanged: what every instruction but a control transfer and a system instruction does. -/
structure PlainSame (s t : State) : Prop where
  gates : GatesSame s t
  pc : t.regs.pc = s.regs.pc

theorem PlainSame.refl (s : State) : PlainSame s s := ⟨.refl s, rfl⟩

theorem PlainSame.trans {s t u : State} (h : PlainSame s t) (k : PlainSame t u) : PlainSame s u :=
  ⟨h.gates.trans k.gates, k.pc.trans h.pc⟩

theorem plain_setReg (s : State) (r : Reg8) (v : Byte) : PlainSame s (s.setReg r v) :=
  ⟨⟨rfl, rfl, rfl, rfl⟩, by cases r <;> rfl⟩

theorem plain_setFlags (s : State) (fl : Flags) : PlainSame s (s.setFlags fl) := ⟨⟨rfl, rfl, rfl, rfl⟩, rfl⟩

theorem plain_setSp (s : State) (v : Word) : PlainSame s (s.setSp v) := ⟨⟨rfl, rfl, rfl, rfl⟩, rfl⟩

theorem plain_setPair (s : State) (p : Pair) (v : Word) : PlainSame s (s.setPair p v) := by
  cases p <;> exact ⟨⟨rfl, rfl, rfl, rfl⟩, rfl⟩

theorem plain_write8 (s : State) (a : Word) (v : Byte) : PlainSame s (s.write8 a v) :=
  ⟨(cpuSame_write8 s a v).gates, by rw [write8_regs]⟩

theorem plain_postModify (s : State) (m : AddrMode) : PlainSame s (s.postModify m) := by
  cases m <;> exact ⟨⟨rfl, rfl, rfl, rfl⟩, rfl⟩

theorem plain_push16 (v : Word) (s : State) : PlainSame s (push16 v s) :=
  have h := push16_cpu v s
  ⟨⟨h.run, h.ime, h.imePending, h.params⟩, by rw [h.regs]; rfl⟩

theorem plain_loadReg (d r : Reg8) (s : State) : PlainSame s (loadReg d r s) := plain_setReg s d _

theorem plain_loadA (m : AddrMode) (s : State) : PlainSame s (loadA m s) := (plain_setReg s .A _).trans (plain_postModify _ m)

theorem plain_storeA (m : AddrMode) (s : State) : PlainSame s (storeA m s) := (plain_write8 s _ _).trans (plain_postModify _ m)

theorem plain_storeSp (nn : Word) (s : State) : PlainSame s (storeSp nn s) := (plain_write8 s _ _).trans (plain_write8 _ _ _)

theorem plain_popPair (p : StackPair) (s : State) : PlainSame s (popPair p s) := by
  cases p <;> exact ⟨⟨rfl, rfl, rfl, rfl⟩, rfl⟩

theorem plain_accumulate (op : AluOp) (v : Byte) (s : State) : PlainSame s (accumulate op v s) := by
  cases op <;> exact ⟨⟨rfl, rfl, rfl, rfl⟩, rfl⟩

theorem plain_incReg (r : Reg8) (s : State) : PlainSame s (incReg r s) := (plain_setReg s r _).trans (plain_setFlags _ _)

theorem plain_decReg (r : Reg8) (s : State) : PlainSame s (decReg r s) := (plain_setReg s r _).trans (plain_setFlags _ _)

theorem plain_incHL (s : State) : PlainSame s (incHL s) := (plain_setFlags s _).trans (plain_write8 _ _ _)

theorem plain_decHL (s : State) : PlainSame s (decHL s) := (plain_setFlags s _).trans (plain_write8 _ _ _)

theorem plain_addToHl (p : Pair) (s : State) : PlainSame s (addToHl p s) := ⟨⟨rfl, rfl, rfl, rfl⟩, rfl⟩

theorem plain_rotAcc (op : RotOp) (s : State) : PlainSame s (rotAcc op s) := ⟨⟨rfl, rfl, rfl, rfl⟩, rfl⟩

theorem plain_rotReg (op : RotOp) (x : Reg8) (s : State) : PlainSame s (rotReg op x s) :=
  (plain_setReg s x _).trans (plain_setFlags _ _)

theorem plain_rotHL (op : RotOp) (s : State) : PlainSame s (rotHL op s) := (plain_setFlags s _).trans (plain_write8 _ _ _)

theorem plain_testBitReg (b : Oct) (x : Reg8) (s : State) : PlainSame s (testBitReg b x s) := plain_setFlags s _

theorem plain_testBitHL (b : Oct) (s : State) : PlainSame s (testBitHL b s) := plain_setFlags s _

theorem plain_resBitReg (b : Oct) (x : Reg8) (s : State) : PlainSame s (resBitReg b x s) := plain_setReg s x _

theorem plain_resBitHL (b : Oct) (s : State) : PlainSame s (resBitHL b s) := plain_write8 s _ _

theorem plain_putBitReg (b : Oct) (x : Reg8) (s : State) : PlainSame s (putBitReg b x s) := plain_setReg s x _

theorem plain_putBitHL (b : Oct) (s : State) : PlainSame s (putBitHL b s) := plain_write8 s _ _

theorem gates_jumpIf (cc : Cond) (a : Word) (s : State) : GatesSame s (jumpIf cc a s) := by
  unfold jumpIf
  split <;> exact ⟨rfl, rfl, rfl, rfl⟩

theorem gates_call (a : Word) (s : State) : GatesSame s (call a s) := (plain_push16 _ s).gates.trans ⟨rfl, rfl, rfl, rfl⟩

theorem gates_ret (s : State) : GatesSame s (ret s) := ⟨rfl, rfl, rfl, rfl⟩

theorem plain_runExtended (op2 : Byte) (s : State) : PlainSame s (runExtended op2 s) := by
  unfold runExtended
  split
  · exact plain_rotReg _ _ s
  · exact plain_rotHL _ s
  · exact plain_testBitReg _ _ s
  · exact plain_testBitHL _ s
  · exact plain_resBitReg _ _ s
  · exact plain_resBitHL _ s
  · exact plain_putBitReg _ _ s
  · exact plain_putBitHL _ s

/-! ### The invariant through each meaning -/

theorem CoreInv.loadReg {s : State} (h : CoreInv s) (d r : Reg8) : CoreInv (loadReg d r s) := h.setReg d _

theorem CoreInv.loadA {s : State} (h : CoreInv s) (m : AddrMode) : CoreInv (loadA m s) := (h.setReg .A _).postModify m

theorem CoreInv.storeA {s : State} (h : CoreInv s) (m : AddrMode) : CoreInv (storeA m s) := (h.write8 _ _).postModify m

theorem CoreInv.storeSp {s : State} (h : CoreInv s) (nn : Word) : CoreInv (storeSp nn s) := (h.write8 _ _).write8 _ _

theorem CoreInv.popPair {s : State} (h : CoreInv s) (p : StackPair) : CoreInv (popPair p s) := (h.setSp _).setStackPair p _

theorem CoreInv.accumulate {s : State} (h : CoreInv s) (op : AluOp) (v : Byte) : CoreInv (accumulate op v s) := by
  cases op <;> first | exact h.setFlags _ | exact (h.setReg .A _).setFlags _

theorem CoreInv.incReg {s : State} (h : CoreInv s) (r : Reg8) : CoreInv (incReg r s) := (h.setReg r _).setFlags _

theorem CoreInv.decReg {s : State} (h : CoreInv s) (r : Reg8) : CoreInv (decReg r s) := (h.setReg r _).setFlags _

theorem CoreInv.incHL {s : State} (h : CoreInv s) : CoreInv (incHL s) := (h.setFlags _).write8 _ _

theorem CoreInv.decHL {s : State} (h : CoreInv s) : CoreInv (decHL s) := (h.setFlags _).write8 _ _

theorem CoreInv.addToHl {s : State} (h : CoreInv s) (p : Pair) : CoreInv (addToHl p s) := (h.setHl _).setFlags _

theorem CoreInv.rotAcc {s : State} (h : CoreInv s) (op : RotOp) : CoreInv (rotAcc op s) := (h.setReg .A _).setFlags _

theorem CoreInv.rotReg {s : State} (h : CoreInv s) (op : RotOp) (x : Reg8) : CoreInv (rotReg op x s) :=
  (h.setReg x _).setFlags _

theorem CoreInv.rotHL {s : State} (h : CoreInv s) (op : RotOp) : CoreInv (rotHL op s) := (h.setFlags _).write8 _ _

theorem CoreInv.testBitReg {s : State} (h : CoreInv s) (b : Oct) (x : Reg8) : CoreInv (testBitReg b x s) := h.setFlags _

theorem CoreInv.testBitHL {s : State} (h : CoreInv s) (b : Oct) : CoreInv (testBitHL b s) := h.setFlags _

theorem CoreInv.resBitReg {s : State} (h : CoreInv s) (b : Oct) (x : Reg8) : CoreInv (resBitReg b x s) := h.setReg x _

theorem CoreInv.resBitHL {s : State} (h : CoreInv s) (b : Oct) : CoreInv (resBitHL b s) := h.write8 _ _

theorem CoreInv.putBitReg {s : State} (h : CoreInv s) (b : Oct) (x : Reg8) : CoreInv (putBitReg b x s) := h.setReg x _

theorem CoreInv.putBitHL {s : State} (h : CoreInv s) (b : Oct) : CoreInv (putBitHL b s) := h.write8 _ _

theorem CoreInv.jumpIf {s : State} (h : CoreInv s) (cc : Cond) (a : Word) : CoreInv (jumpIf cc a s) := by
  unfold Machine.jumpIf
  split
  · exact h.setPc _
  · exact h

theorem CoreInv.call {s : State} (h : CoreInv s) (a : Word) : CoreInv (call a s) := (h.push16 _).setPc _

theorem CoreInv.ret {s : State} (h : CoreInv s) : CoreInv (ret s) := (h.setSp _).setPc _

theorem CoreInv.runExtended {s : State} (h : CoreInv s) (op2 : Byte) : CoreInv (runExtended op2 s) := by
  unfold Machine.runExtended
  split
  · exact h.rotReg _ _
  · exact h.rotHL _
  · exact h.testBitReg _ _
  · exact h.testBitHL _
  · exact h.resBitReg _ _
  · exact h.resBitHL _
  · exact h.putBitReg _ _
  · exact h.putBitHL _

end Sys2Proof.Machine
end

