-- ==== Sys2Proof/Laws/Exec.lean ====
section
/-! SUPPORT. What `exec` does, over all instructions at once: it always answers a next state, which instructions write the
gates, the run state and `PC` (rules R17, R18, R19, R281), and that it keeps `CoreInv`. -/

namespace Sys2Proof.Machine

/-- Every instruction has a next state from every state. -/
theorem exec_next (i : Instr) (s : State) : ∃ t, exec i s = .next t := by
  cases i <;> exact ⟨_, rfl⟩

theorem plain_writeHL (s : State) (v : Byte) : PlainSame s (s.writeHL v) := plain_write8 s _ v

theorem gates_setPc (s : State) (v : Word) : GatesSame s (s.setPc v) := ⟨rfl, rfl, rfl, rfl⟩

theorem gates_ite {c : Prop} [Decidable c] {s t u : State} (h : GatesSame s t) (k : GatesSame s u) :
    GatesSame s (if c then t else u) := by
  split
  · exact h
  · exact k

theorem gates_runPrefixed (s : State) : GatesSame s (runPrefixed s) :=
  (gates_setPc s (s.regs.pc + 1)).trans (plain_runExtended (s.read8 (.fetch 1) s.regs.pc) _).gates

theorem gates_case {P Q R S T : Prop} {s t : State} (g : GatesSame s t) :
    (P → Q → R → S → T → GatesSame s t) ∧ t.params = s.params := ⟨fun _ _ _ _ _ => g, g.params⟩

/-- The gates and the run state are written by `HALT`, `EI`, `DI`, `RETI` and the illegal opcodes only; nothing writes
the parameters. -/
theorem exec_gates {i : Instr} {s t : State} (h : exec i s = .next t) :
    (i ≠ .halt → i ≠ .ei → i ≠ .di → i ≠ .reti → faultOpcode i = none → GatesSame s t) ∧ t.params = s.params := by
  cases i
  all_goals
    have ht := Host.Outcome.next.inj h
    clear h
    subst ht
  case halt => exact ⟨fun h => absurd rfl h, rfl⟩
  case ei => exact ⟨fun _ h => absurd rfl h, rfl⟩
  case di => exact ⟨fun _ _ h => absurd rfl h, rfl⟩
  case reti => exact ⟨fun _ _ _ h => absurd rfl h, rfl⟩
  all_goals first
    | (refine gates_case ?_
       with_reducible first
         | exact (plain_rotReg _ _ s).gates
         | exact (plain_testBitReg _ _ s).gates
         | exact (plain_resBitReg _ _ s).gates
         | exact (plain_putBitReg _ _ s).gates
         | exact (plain_accumulate _ _ s).gates
         | exact (plain_loadReg _ _ s).gates
         | exact (plain_setReg s _ _).gates
         | exact (plain_testBitHL _ s).gates
         | exact (plain_resBitHL _ s).gates
         | exact (plain_putBitHL _ s).gates
         | exact (plain_rotHL _ s).gates
         | exact (plain_rotAcc _ s).gates
         | exact (plain_loadA _ s).gates
         | exact (plain_storeA _ s).gates
         | exact (plain_storeSp _ s).gates
         | exact (plain_popPair _ s).gates
         | exact (plain_incReg _ s).gates
         | exact (plain_decReg _ s).gates
         | exact (plain_incHL s).gates
         | exact (plain_decHL s).gates
         | exact (plain_addToHl _ s).gates
         | exact (plain_setPair s _ _).gates
         | exact (plain_push16 _ s).gates
         | exact (plain_writeHL s _).gates
         | exact gates_jumpIf _ _ s
         | exact gates_call _ s
         | exact gates_ret s
         | exact gates_ite (gates_call _ s) (.refl s)
         | exact gates_ite (gates_ret s) (.refl s)
         | exact .refl s
         | exact gates_setPc s _
         | exact gates_runPrefixed s
         | exact ⟨rfl, rfl, rfl, rfl⟩)
    | exact ⟨fun _ _ _ _ h => (nomatch h), rfl⟩

theorem pc_case {P Q : Prop} {s t : State} (g : PlainSame s t) : P → Q → t.regs.pc = s.regs.pc := fun _ _ => g.pc

theorem transfer_case {op : Byte} {l : List Byte} (h : op ∈ transferOpcodes) {Q : Prop} :
    (op :: l).headD 0 ∉ transferOpcodes → Q := fun k => absurd h k

/-- Only the control transfers write `PC`, and the prefix byte taken alone, which fetches its second byte. -/
theorem exec_pc {i : Instr} {s t : State} (h : exec i s = .next t) :
    (encode i).headD 0 ∉ transferOpcodes → i ≠ .prefixCb → t.regs.pc = s.regs.pc := by
  cases i
  all_goals
    have ht := Host.Outcome.next.inj h
    clear h
    subst ht
  all_goals first
    | (refine pc_case ?_
       with_reducible first
         | exact plain_rotReg _ _ s
         | exact plain_testBitReg _ _ s
         | exact plain_resBitReg _ _ s
         | exact plain_putBitReg _ _ s
         | exact plain_accumulate _ _ s
         | exact plain_loadReg _ _ s
         | exact plain_setReg s _ _
         | exact plain_testBitHL _ s
         | exact plain_resBitHL _ s
         | exact plain_putBitHL _ s
         | exact plain_rotHL _ s
         | exact plain_rotAcc _ s
         | exact plain_loadA _ s
         | exact plain_storeA _ s
         | exact plain_storeSp _ s
         | exact plain_popPair _ s
         | exact plain_incReg _ s
         | exact plain_decReg _ s
         | exact plain_incHL s
         | exact plain_decHL s
         | exact plain_addToHl _ s
         | exact plain_setPair s _ _
         | exact plain_push16 _ s
         | exact plain_writeHL s _)
    | exact fun _ _ => rfl
    | exact transfer_case (by decide)
    | exact fun _ h => absurd rfl h

theorem CoreInv.writeHL {s : State} (h : CoreInv s) (v : Byte) : CoreInv (s.writeHL v) := h.write8 _ v

theorem CoreInv.ite {c : Prop} [Decidable c] {t u : State} (h : CoreInv t) (k : CoreInv u) :
    CoreInv (if c then t else u) := by
  split
  · exact h
  · exact k

theorem CoreInv.runPrefixed {s : State} (h : CoreInv s) : CoreInv (runPrefixed s) := (h.setPc _).runExtended _

theorem CoreInv.returnFromInterrupt {s : State} (h : CoreInv s) : CoreInv (returnFromInterrupt s) := h.ret.setIme true

theorem CoreInv.raiseDecodeFault {s : State} (h : CoreInv s) (op : Byte) : CoreInv (raiseDecodeFault op s) := h.setRun _

theorem CoreInv.ignoreByte {s : State} (h : CoreInv s) (n : Byte) : CoreInv (ignoreByte n s) := h

/-- Every instruction keeps `CoreInv`. -/
theorem CoreInv.exec {i : Instr} {s t : State} (h : CoreInv s) (he : exec i s = .next t) : CoreInv t := by
  cases i
  all_goals
    have ht := Host.Outcome.next.inj he
    clear he
    subst ht
  all_goals with_reducible first
    | exact h.rotReg _ _
    | exact h.testBitReg _ _
    | exact h.resBitReg _ _
    | exact h.putBitReg _ _
    | exact h.accumulate _ _
    | exact h.loadReg _ _
    | exact h.setReg _ _
    | exact h.testBitHL _
    | exact h.resBitHL _
    | exact h.putBitHL _
    | exact h.rotHL _
    | exact h.rotAcc _
    | exact h.loadA _
    | exact h.storeA _
    | exact h.storeSp _
    | exact h.popPair _
    | exact h.incReg _
    | exact h.decReg _
    | exact h.incHL
    | exact h.decHL
    | exact h.addToHl _
    | exact h.setPair _ _
    | exact h.push16 _
    | exact h.writeHL _
    | exact h.jumpIf _ _
    | exact h.call _
    | exact h.ret
    | exact (h.call _).ite h
    | exact h.ret.ite h
    | exact h
    | exact h.setPc _
    | exact h.setSp _
    | exact h.setRun _
    | exact h.runPrefixed
    | exact (h.setIme _).setImePending _
    | exact h.returnFromInterrupt
    | exact h.raiseDecodeFault _
    | exact h.ignoreByte _
    | exact h.setFlags _
    | exact (h.setReg _ _).setFlags _
    | exact (h.setHl _).setFlags _
    | exact (h.setSp _).setFlags _

end Sys2Proof.Machine
end

