-- ==== Sys2Proof/Laws/Timer.lean ====
section
/-! SUPPORT. The timer in closed form (rules R341 to R345). -/

namespace Sys2Proof.Machine

/-- `n` ticks change the counter and the request only (rule R345). -/
theorem timaTicks_frame (n : Nat) (s : State) :
    timaTicks n s = { s with irq := { s.irq with flag := (timaTicks n s).irq.flag },
                             timer := { s.timer with tima := (timaTicks n s).timer.tima } } := by
  induction n generalizing s with
  | zero => rfl
  | succ n ih =>
    have h := ih (timaTick s)
    rw [timaTicks]
    generalize timaTicks n (timaTick s) = t at h ⊢
    rw [h]
    unfold timaTick
    split <;> rfl

theorem timaTicks_add (m n : Nat) (s : State) : timaTicks (m + n) s = timaTicks n (timaTicks m s) := by
  induction m generalizing s with
  | zero => rw [Nat.zero_add]; rfl
  | succ m ih => rw [show m + 1 + n = (m + n) + 1 by omega]; exact ih _

/-- The state with given accumulators and a given `DIV`. -/
def withDivider (x y : Nat) (d : Byte) (s : State) : State :=
  s.setTimer { s.timer with timaAcc := x, divAcc := y, div := d }

/-- Ticks do not see the accumulators and the divider. -/
theorem timaTicks_withDivider (n : Nat) (s : State) (x y : Nat) (d : Byte) :
    timaTicks n (withDivider x y d s) = withDivider x y d (timaTicks n s) := by
  induction n generalizing s with
  | zero => rfl
  | succ n ih =>
    rw [timaTicks, timaTicks, ← ih]
    congr 1
    unfold timaTick
    show (if s.timer.tima = 0xFF then _ else _) = _
    split <;> rfl

/-- A timer step: the divider's whole periods, and if the counter is enabled its whole periods (rules R341 to R344). -/
theorem timerStep_eq (n : Nat) (s : State) :
    timerStep n s =
      let d := s.timer.div + BitVec.ofNat 8 ((s.timer.divAcc + n) / s.params.timing.divPeriod)
      let y := (s.timer.divAcc + n) % s.params.timing.divPeriod
      if s.timer.tac.getLsbD 2 then
        let period := timaPeriod s.params.timing (s.timer.tac.extractLsb' 0 2)
        withDivider ((s.timer.timaAcc + n) % period) y d (timaTicks ((s.timer.timaAcc + n) / period) s)
      else withDivider s.timer.timaAcc y d s := by
  unfold timerStep timaStep divStep
  simp only
  show (if s.timer.tac.getLsbD 2 then _ else _) = _
  split
  · rw [← timaTicks_withDivider]; rfl
  · rfl

/-- Ticks that do not overflow. -/
theorem timaTicks_below (n : Nat) (s : State) (h : s.timer.tima.toNat + n ≤ 255) :
    (timaTicks n s).timer.tima.toNat = s.timer.tima.toNat + n ∧ (timaTicks n s).irq = s.irq := by
  induction n generalizing s with
  | zero => exact ⟨rfl, rfl⟩
  | succ n ih =>
    have e : timaTick s = s.setTimer { s.timer with tima := s.timer.tima + 1 } := by
      unfold timaTick
      rw [if_neg]
      intro h'
      rw [h'] at h
      simp at h
    have e1 : (s.timer.tima + 1).toNat = s.timer.tima.toNat + 1 := by
      rw [BitVec.toNat_add]
      simp
      omega
    have hn := ih (timaTick s) (by rw [e]; show (s.timer.tima + 1).toNat + n ≤ 255; omega)
    rw [timaTicks, hn.1, hn.2, e]
    exact ⟨by show (s.timer.tima + 1).toNat + n = _; omega, rfl⟩

/-- The tick that overflows reloads and requests (rule R345). -/
theorem timaTick_overflow {s : State} (h : s.timer.tima = 0xFF) :
    timaTick s = (s.setTimer { s.timer with tima := s.timer.tma }).request 2 := by
  unfold timaTick
  rw [if_pos h]

end Sys2Proof.Machine
end

