-- ==== Sys2Proof/Laws/Interrupts.lean ====
section
/-! SUPPORT. The servicing phase and the interrupt mask: what the guard and the priority order come to, and that no
peripheral writes `IE`. -/

namespace Sys2Proof.Machine

/-- The second conjunct of the guard (rule R304) never changes it: a source that is requested sets a bit of `IF`. -/
theorem serviceGuard_eq (s : State) : s.serviceGuard = (s.pending != 0) := by
  unfold State.serviceGuard State.pending
  generalize s.irq.ie = x
  generalize s.irq.flag = y
  revert x y
  decide

/-- The least source that is pending is the one dispatched (rule R306). -/
theorem firstSource_eq {s : State} {i : Nat} (hi : i < 5) (hp : s.pending.getLsbD i = true)
    (hl : ∀ j, j < i → s.pending.getLsbD j = false) : s.firstSource = i := by
  unfold State.firstSource
  have cases5 : i = 0 ∨ i = 1 ∨ i = 2 ∨ i = 3 ∨ i = 4 := by omega
  rcases cases5 with rfl | rfl | rfl | rfl | rfl <;> simp [hp, hl, -BitVec.getLsbD_eq_getElem]

/-! ## `IE` is not a peripheral's -/

theorem timerStep_ie (n : Nat) (s : State) : (timerStep n s).irq.ie = s.irq.ie := by
  unfold timerStep timaStep
  split
  · rw [timaTicks_frame]; rfl
  · rfl

theorem statusRequest_ie (e : Bool) (s : State) : (statusRequest e s).irq.ie = s.irq.ie := by cases e <;> rfl

theorem setScanline_ie (n : Byte) (s : State) : (setScanline n s).irq.ie = s.irq.ie := statusRequest_ie _ _

theorem setMode_ie (m : Mode) (s : State) : (setMode m s).irq.ie = s.irq.ie := by
  cases m
  · simp only [setMode, hblankEvent, dmaHBlank_irq]
    exact statusRequest_ie _ _
  · exact statusRequest_ie _ _
  · exact statusRequest_ie _ _
  · rfl

theorem modeEnd_ie (s : State) : (modeEnd s).irq.ie = s.irq.ie := by
  unfold modeEnd hblankExit vblankLine
  split
  · exact setMode_ie _ _
  · exact setMode_ie _ _
  · simp only
    split_ifs <;> rw [setMode_ie, setScanline_ie]
  · split_ifs
    · rw [setMode_ie, setScanline_ie]
    · rw [setScanline_ie]

theorem graphicsLoop_ie (fuel : Nat) (s : State) : (graphicsLoop fuel s).irq.ie = s.irq.ie := by
  induction fuel generalizing s with
  | zero => rfl
  | succ n ih =>
    unfold graphicsLoop
    split_ifs
    · rw [ih, modeEnd_ie]; rfl
    · rfl

/-- The broadcast requests interrupts and never changes which are enabled (rule R15). -/
theorem broadcast_ie (n : Nat) (s : State) : (broadcast n s).irq.ie = s.irq.ie := by
  show (graphicsStep n (timerStep n s)).irq.ie = _
  unfold graphicsStep
  simp only
  split_ifs
  · rw [graphicsLoop_ie]; exact timerStep_ie n s
  · exact timerStep_ie n s

end Sys2Proof.Machine
end

