-- ==== Sys2Proof/Laws/PerInstr.lean ====
section
/-! SUPPORT. Statements made of each instruction: `EncodedLength` says that the encoder and the length a first byte
announces (rule R116) agree. -/

namespace Sys2Proof.Laws.EncodedLength

/-- The bytes of the encoding are as many as its first byte announces (rule R116), and at most three. -/
def Statement (i : Instr) : Prop :=
  i.wellFormed = true → (encode i).length = instrLength ((encode i).headD 0) ∧ (encode i).length ≤ 3

/-- Of an encoding the bytes are known. -/
theorem of_bytes {i : Instr} {op : Byte} {rest : List Byte} (n : Nat) (h : encode i = op :: rest)
    (hr : rest.length = n) (hl : instrLength op = n + 1) (hm : n ≤ 2) : Statement i := by
  intro _
  rw [h]
  exact ⟨by simp [hl, hr], by simp [hr]; omega⟩

theorem nop : Statement .nop := of_bytes 0 rfl rfl (by decide) (by decide)
theorem ld_BC_nn (nn : Word) : Statement (.ld_BC_nn nn) := of_bytes 2 rfl rfl (by decide) (by decide)
theorem ld_atBC_A : Statement .ld_atBC_A := of_bytes 0 rfl rfl (by decide) (by decide)
theorem inc_BC : Statement .inc_BC := of_bytes 0 rfl rfl (by decide) (by decide)
theorem inc_B : Statement .inc_B := of_bytes 0 rfl rfl (by decide) (by decide)
theorem dec_B : Statement .dec_B := of_bytes 0 rfl rfl (by decide) (by decide)
theorem ld_B_n (n : Byte) : Statement (.ld_B_n n) := of_bytes 1 rfl rfl (by decide) (by decide)
theorem rlca : Statement .rlca := of_bytes 0 rfl rfl (by decide) (by decide)
theorem ld_atnn_SP (nn : Word) : Statement (.ld_atnn_SP nn) := of_bytes 2 rfl rfl (by decide) (by decide)
theorem add_HL_BC : Statement .add_HL_BC := of_bytes 0 rfl rfl (by decide) (by decide)
theorem ld_A_atBC : Statement .ld_A_atBC := of_bytes 0 rfl rfl (by decide) (by decide)
theorem dec_BC : Statement .dec_BC := of_bytes 0 rfl rfl (by decide) (by decide)
theorem inc_C : Statement .inc_C := of_bytes 0 rfl rfl (by decide) (by decide)
theorem dec_C : Statement .dec_C := of_bytes 0 rfl rfl (by decide) (by decide)
theorem ld_C_n (n : Byte) : Statement (.ld_C_n n) := of_bytes 1 rfl rfl (by decide) (by decide)
theorem rrca : Statement .rrca := of_bytes 0 rfl rfl (by decide) (by decide)
theorem stop (n : Byte) : Statement (.stop n) := of_bytes 1 rfl rfl (by decide) (by decide)
theorem ld_DE_nn (nn : Word) : Statement (.ld_DE_nn nn) := of_bytes 2 rfl rfl (by decide) (by decide)
theorem ld_atDE_A : Statement .ld_atDE_A := of_bytes 0 rfl rfl (by decide) (by decide)
theorem inc_DE : Statement .inc_DE := of_bytes 0 rfl rfl (by decide) (by decide)
theorem inc_D : Statement .inc_D := of_bytes 0 rfl rfl (by decide) (by decide)
theorem dec_D : Statement .dec_D := of_bytes 0 rfl rfl (by decide) (by decide)
theorem ld_D_n (n : Byte) : Statement (.ld_D_n n) := of_bytes 1 rfl rfl (by decide) (by decide)
theorem rla : Statement .rla := of_bytes 0 rfl rfl (by decide) (by decide)
theorem jr_e (e : Byte) : Statement (.jr_e e) := of_bytes 1 rfl rfl (by decide) (by decide)
theorem add_HL_DE : Statement .add_HL_DE := of_bytes 0 rfl rfl (by decide) (by decide)
theorem ld_A_atDE : Statement .ld_A_atDE := of_bytes 0 rfl rfl (by decide) (by decide)
theorem dec_DE : Statement .dec_DE := of_bytes 0 rfl rfl (by decide) (by decide)
theorem inc_E : Statement .inc_E := of_bytes 0 rfl rfl (by decide) (by decide)
theorem dec_E : Statement .dec_E := of_bytes 0 rfl rfl (by decide) (by decide)
theorem ld_E_n (n : Byte) : Statement (.ld_E_n n) := of_bytes 1 rfl rfl (by decide) (by decide)
theorem rra : Statement .rra := of_bytes 0 rfl rfl (by decide) (by decide)
theorem jr_NZ_e (e : Byte) : Statement (.jr_NZ_e e) := of_bytes 1 rfl rfl (by decide) (by decide)
theorem ld_HL_nn (nn : Word) : Statement (.ld_HL_nn nn) := of_bytes 2 rfl rfl (by decide) (by decide)
theorem ld_atHLinc_A : Statement .ld_atHLinc_A := of_bytes 0 rfl rfl (by decide) (by decide)
theorem inc_HL : Statement .inc_HL := of_bytes 0 rfl rfl (by decide) (by decide)
theorem inc_H : Statement .inc_H := of_bytes 0 rfl rfl (by decide) (by decide)
theorem dec_H : Statement .dec_H := of_bytes 0 rfl rfl (by decide) (by decide)
theorem ld_H_n (n : Byte) : Statement (.ld_H_n n) := of_bytes 1 rfl rfl (by decide) (by decide)
theorem daa : Statement .daa := of_bytes 0 rfl rfl (by decide) (by decide)
theorem jr_Z_e (e : Byte) : Statement (.jr_Z_e e) := of_bytes 1 rfl rfl (by decide) (by decide)
theorem add_HL_HL : Statement .add_HL_HL := of_bytes 0 rfl rfl (by decide) (by decide)
theorem ld_A_atHLinc : Statement .ld_A_atHLinc := of_bytes 0 rfl rfl (by decide) (by decide)
theorem dec_HL : Statement .dec_HL := of_bytes 0 rfl rfl (by decide) (by decide)
theorem inc_L : Statement .inc_L := of_bytes 0 rfl rfl (by decide) (by decide)
theorem dec_L : Statement .dec_L := of_bytes 0 rfl rfl (by decide) (by decide)
theorem ld_L_n (n : Byte) : Statement (.ld_L_n n) := of_bytes 1 rfl rfl (by decide) (by decide)
theorem cpl : Statement .cpl := of_bytes 0 rfl rfl (by decide) (by decide)
theorem jr_NC_e (e : Byte) : Statement (.jr_NC_e e) := of_bytes 1 rfl rfl (by decide) (by decide)
theorem ld_SP_nn (nn : Word) : Statement (.ld_SP_nn nn) := of_bytes 2 rfl rfl (by decide) (by decide)
theorem ld_atHLdec_A : Statement .ld_atHLdec_A := of_bytes 0 rfl rfl (by decide) (by decide)
theorem inc_SP : Statement .inc_SP := of_bytes 0 rfl rfl (by decide) (by decide)
theorem inc_atHL : Statement .inc_atHL := of_bytes 0 rfl rfl (by decide) (by decide)
theorem dec_atHL : Statement .dec_atHL := of_bytes 0 rfl rfl (by decide) (by decide)
theorem ld_atHL_n (n : Byte) : Statement (.ld_atHL_n n) := of_bytes 1 rfl rfl (by decide) (by decide)
theorem scf : Statement .scf := of_bytes 0 rfl rfl (by decide) (by decide)
theorem jr_C_e (e : Byte) : Statement (.jr_C_e e) := of_bytes 1 rfl rfl (by decide) (by decide)
theorem add_HL_SP : Statement .add_HL_SP := of_bytes 0 rfl rfl (by decide) (by decide)
theorem ld_A_atHLdec : Statement .ld_A_atHLdec := of_bytes 0 rfl rfl (by decide) (by decide)
theorem dec_SP : Statement .dec_SP := of_bytes 0 rfl rfl (by decide) (by decide)
theorem inc_A : Statement .inc_A := of_bytes 0 rfl rfl (by decide) (by decide)
theorem dec_A : Statement .dec_A := of_bytes 0 rfl rfl (by decide) (by decide)
theorem ld_A_n (n : Byte) : Statement (.ld_A_n n) := of_bytes 1 rfl rfl (by decide) (by decide)
theorem ccf : Statement .ccf := of_bytes 0 rfl rfl (by decide) (by decide)
theorem ld_B_B : Statement .ld_B_B := of_bytes 0 rfl rfl (by decide) (by decide)
theorem ld_B_C : Statement .ld_B_C := of_bytes 0 rfl rfl (by decide) (by decide)
theorem ld_B_D : Statement .ld_B_D := of_bytes 0 rfl rfl (by decide) (by decide)
theorem ld_B_E : Statement .ld_B_E := of_bytes 0 rfl rfl (by decide) (by decide)
theorem ld_B_H : Statement .ld_B_H := of_bytes 0 rfl rfl (by decide) (by decide)
theorem ld_B_L : Statement .ld_B_L := of_bytes 0 rfl rfl (by decide) (by decide)
theorem ld_B_atHL : Statement .ld_B_atHL := of_bytes 0 rfl rfl (by decide) (by decide)
theorem ld_B_A : Statement .ld_B_A := of_bytes 0 rfl rfl (by decide) (by decide)
theorem ld_C_B : Statement .ld_C_B := of_bytes 0 rfl rfl (by decide) (by decide)
theorem ld_C_C : Statement .ld_C_C := of_bytes 0 rfl rfl (by decide) (by decide)
theorem ld_C_D : Statement .ld_C_D := of_bytes 0 rfl rfl (by decide) (by decide)
theorem ld_C_E : Statement .ld_C_E := of_bytes 0 rfl rfl (by decide) (by decide)
theorem ld_C_H : Statement .ld_C_H := of_bytes 0 rfl rfl (by decide) (by decide)
theorem ld_C_L : Statement .ld_C_L := of_bytes 0 rfl rfl (by decide) (by decide)
theorem ld_C_atHL : Statement .ld_C_atHL := of_bytes 0 rfl rfl (by decide) (by decide)
theorem ld_C_A : Statement .ld_C_A := of_bytes 0 rfl rfl (by decide) (by decide)
theorem ld_D_B : Statement .ld_D_B := of_bytes 0 rfl rfl (by decide) (by decide)
theorem ld_D_C : Statement .ld_D_C := of_bytes 0 rfl rfl (by decide) (by decide)
theorem ld_D_D : Statement .ld_D_D := of_bytes 0 rfl rfl (by decide) (by decide)
theorem ld_D_E : Statement .ld_D_E := of_bytes 0 rfl rfl (by decide) (by decide)
theorem ld_D_H : Statement .ld_D_H := of_bytes 0 rfl rfl (by decide) (by decide)
theorem ld_D_L : Statement .ld_D_L := of_bytes 0 rfl rfl (by decide) (by decide)
theorem ld_D_atHL : Statement .ld_D_atHL := of_bytes 0 rfl rfl (by decide) (by decide)
theorem ld_D_A : Statement .ld_D_A := of_bytes 0 rfl rfl (by decide) (by decide)
theorem ld_E_B : Statement .ld_E_B := of_bytes 0 rfl rfl (by decide) (by decide)
theorem ld_E_C : Statement .ld_E_C := of_bytes 0 rfl rfl (by decide) (by decide)
theorem ld_E_D : Statement .ld_E_D := of_bytes 0 rfl rfl (by decide) (by decide)
theorem ld_E_E : Statement .ld_E_E := of_bytes 0 rfl rfl (by decide) (by decide)
theorem ld_E_H : Statement .ld_E_H := of_bytes 0 rfl rfl (by decide) (by decide)
theorem ld_E_L : Statement .ld_E_L := of_bytes 0 rfl rfl (by decide) (by decide)
theorem ld_E_atHL : Statement .ld_E_atHL := of_bytes 0 rfl rfl (by decide) (by decide)
theorem ld_E_A : Statement .ld_E_A := of_bytes 0 rfl rfl (by decide) (by decide)
theorem ld_H_B : Statement .ld_H_B := of_bytes 0 rfl rfl (by decide) (by decide)
theorem ld_H_C : Statement .ld_H_C := of_bytes 0 rfl rfl (by decide) (by decide)
theorem ld_H_D : Statement .ld_H_D := of_bytes 0 rfl rfl (by decide) (by decide)
theorem ld_H_E : Statement .ld_H_E := of_bytes 0 rfl rfl (by decide) (by decide)
theorem ld_H_H : Statement .ld_H_H := of_bytes 0 rfl rfl (by decide) (by decide)
theorem ld_H_L : Statement .ld_H_L := of_bytes 0 rfl rfl (by decide) (by decide)
theorem ld_H_atHL : Statement .ld_H_atHL := of_bytes 0 rfl rfl (by decide) (by decide)
theorem ld_H_A : Statement .ld_H_A := of_bytes 0 rfl rfl (by decide) (by decide)
theorem ld_L_B : Statement .ld_L_B := of_bytes 0 rfl rfl (by decide) (by decide)
theorem ld_L_C : Statement .ld_L_C := of_bytes 0 rfl rfl (by decide) (by decide)
theorem ld_L_D : Statement .ld_L_D := of_bytes 0 rfl rfl (by decide) (by decide)
theorem ld_L_E : Statement .ld_L_E := of_bytes 0 rfl rfl (by decide) (by decide)
theorem ld_L_H : Statement .ld_L_H := of_bytes 0 rfl rfl (by decide) (by decide)
theorem ld_L_L : Statement .ld_L_L := of_bytes 0 rfl rfl (by decide) (by decide)
theorem ld_L_atHL : Statement .ld_L_atHL := of_bytes 0 rfl rfl (by decide) (by decide)
theorem ld_L_A : Statement .ld_L_A := of_bytes 0 rfl rfl (by decide) (by decide)
theorem ld_atHL_B : Statement .ld_atHL_B := of_bytes 0 rfl rfl (by decide) (by decide)
theorem ld_atHL_C : Statement .ld_atHL_C := of_bytes 0 rfl rfl (by decide) (by decide)
theorem ld_atHL_D : Statement .ld_atHL_D := of_bytes 0 rfl rfl (by decide) (by decide)
theorem ld_atHL_E : Statement .ld_atHL_E := of_bytes 0 rfl rfl (by decide) (by decide)
theorem ld_atHL_H : Statement .ld_atHL_H := of_bytes 0 rfl rfl (by decide) (by decide)
theorem ld_atHL_L : Statement .ld_atHL_L := of_bytes 0 rfl rfl (by decide) (by decide)
theorem halt : Statement .halt := of_bytes 0 rfl rfl (by decide) (by decide)
theorem ld_atHL_A : Statement .ld_atHL_A := of_bytes 0 rfl rfl (by decide) (by decide)
theorem ld_A_B : Statement .ld_A_B := of_bytes 0 rfl rfl (by decide) (by decide)
theorem ld_A_C : Statement .ld_A_C := of_bytes 0 rfl rfl (by decide) (by decide)
theorem ld_A_D : Statement .ld_A_D := of_bytes 0 rfl rfl (by decide) (by decide)
theorem ld_A_E : Statement .ld_A_E := of_bytes 0 rfl rfl (by decide) (by decide)
theorem ld_A_H : Statement .ld_A_H := of_bytes 0 rfl rfl (by decide) (by decide)
theorem ld_A_L : Statement .ld_A_L := of_bytes 0 rfl rfl (by decide) (by decide)
theorem ld_A_atHL : Statement .ld_A_atHL := of_bytes 0 rfl rfl (by decide) (by decide)
theorem ld_A_A : Statement .ld_A_A := of_bytes 0 rfl rfl (by decide) (by decide)
theorem add_A_B : Statement .add_A_B := of_bytes 0 rfl rfl (by decide) (by decide)
theorem add_A_C : Statement .add_A_C := of_bytes 0 rfl rfl (by decide) (by decide)
theorem add_A_D : Statement .add_A_D := of_bytes 0 rfl rfl (by decide) (by decide)
theorem add_A_E : Statement .add_A_E := of_bytes 0 rfl rfl (by decide) (by decide)
theorem add_A_H : Statement .add_A_H := of_bytes 0 rfl rfl (by decide) (by decide)
theorem add_A_L : Statement .add_A_L := of_bytes 0 rfl rfl (by decide) (by decide)
theorem add_A_atHL : Statement .add_A_atHL := of_bytes 0 rfl rfl (by decide) (by decide)
theorem add_A_A : Statement .add_A_A := of_bytes 0 rfl rfl (by decide) (by decide)
theorem adc_A_B : Statement .adc_A_B := of_bytes 0 rfl rfl (by decide) (by decide)
theorem adc_A_C : Statement .adc_A_C := of_bytes 0 rfl rfl (by decide) (by decide)
theorem adc_A_D : Statement .adc_A_D := of_bytes 0 rfl rfl (by decide) (by decide)
theorem adc_A_E : Statement .adc_A_E := of_bytes 0 rfl rfl (by decide) (by decide)
theorem adc_A_H : Statement .adc_A_H := of_bytes 0 rfl rfl (by decide) (by decide)
theorem adc_A_L : Statement .adc_A_L := of_bytes 0 rfl rfl (by decide) (by decide)
theorem adc_A_atHL : Statement .adc_A_atHL := of_bytes 0 rfl rfl (by decide) (by decide)
theorem adc_A_A : Statement .adc_A_A := of_bytes 0 rfl rfl (by decide) (by decide)
theorem sub_B : Statement .sub_B := of_bytes 0 rfl rfl (by decide) (by decide)
theorem sub_C : Statement .sub_C := of_bytes 0 rfl rfl (by decide) (by decide)
theorem sub_D : Statement .sub_D := of_bytes 0 rfl rfl (by decide) (by decide)
theorem sub_E : Statement .sub_E := of_bytes 0 rfl rfl (by decide) (by decide)
theorem sub_H : Statement .sub_H := of_bytes 0 rfl rfl (by decide) (by decide)
theorem sub_L : Statement .sub_L := of_bytes 0 rfl rfl (by decide) (by decide)
theorem sub_atHL : Statement .sub_atHL := of_bytes 0 rfl rfl (by decide) (by decide)
theorem sub_A : Statement .sub_A := of_bytes 0 rfl rfl (by decide) (by decide)
theorem sbc_A_B : Statement .sbc_A_B := of_bytes 0 rfl rfl (by decide) (by decide)
theorem sbc_A_C : Statement .sbc_A_C := of_bytes 0 rfl rfl (by decide) (by decide)
theorem sbc_A_D : Statement .sbc_A_D := of_bytes 0 rfl rfl (by decide) (by decide)
theorem sbc_A_E : Statement .sbc_A_E := of_bytes 0 rfl rfl (by decide) (by decide)
theorem sbc_A_H : Statement .sbc_A_H := of_bytes 0 rfl rfl (by decide) (by decide)
theorem sbc_A_L : Statement .sbc_A_L := of_bytes 0 rfl rfl (by decide) (by decide)
theorem sbc_A_atHL : Statement .sbc_A_atHL := of_bytes 0 rfl rfl (by decide) (by decide)
theorem sbc_A_A : Statement .sbc_A_A := of_bytes 0 rfl rfl (by decide) (by decide)
theorem and_B : Statement .and_B := of_bytes 0 rfl rfl (by decide) (by decide)
theorem and_C : Statement .and_C := of_bytes 0 rfl rfl (by decide) (by decide)
theorem and_D : Statement .and_D := of_bytes 0 rfl rfl (by decide) (by decide)
theorem and_E : Statement .and_E := of_bytes 0 rfl rfl (by decide) (by decide)
theorem and_H : Statement .and_H := of_bytes 0 rfl rfl (by decide) (by decide)
theorem and_L : Statement .and_L := of_bytes 0 rfl rfl (by decide) (by decide)
theorem and_atHL : Statement .and_atHL := of_bytes 0 rfl rfl (by decide) (by decide)
theorem and_A : Statement .and_A := of_bytes 0 rfl rfl (by decide) (by decide)
theorem xor_B : Statement .xor_B := of_bytes 0 rfl rfl (by decide) (by decide)
theorem xor_C : Statement .xor_C := of_bytes 0 rfl rfl (by decide) (by decide)
theorem xor_D : Statement .xor_D := of_bytes 0 rfl rfl (by decide) (by decide)
theorem xor_E : Statement .xor_E := of_bytes 0 rfl rfl (by decide) (by decide)
theorem xor_H : Statement .xor_H := of_bytes 0 rfl rfl (by decide) (by decide)
theorem xor_L : Statement .xor_L := of_bytes 0 rfl rfl (by decide) (by decide)
theorem xor_atHL : Statement .xor_atHL := of_bytes 0 rfl rfl (by decide) (by decide)
theorem xor_A : Statement .xor_A := of_bytes 0 rfl rfl (by decide) (by decide)
theorem or_B : Statement .or_B := of_bytes 0 rfl rfl (by decide) (by decide)
theorem or_C : Statement .or_C := of_bytes 0 rfl rfl (by decide) (by decide)
theorem or_D : Statement .or_D := of_bytes 0 rfl rfl (by decide) (by decide)
theorem or_E : Statement .or_E := of_bytes 0 rfl rfl (by decide) (by decide)
theorem or_H : Statement .or_H := of_bytes 0 rfl rfl (by decide) (by decide)
theorem or_L : Statement .or_L := of_bytes 0 rfl rfl (by decide) (by decide)
theorem or_atHL : Statement .or_atHL := of_bytes 0 rfl rfl (by decide) (by decide)
theorem or_A : Statement .or_A := of_bytes 0 rfl rfl (by decide) (by decide)
theorem cp_B : Statement .cp_B := of_bytes 0 rfl rfl (by decide) (by decide)
theorem cp_C : Statement .cp_C := of_bytes 0 rfl rfl (by decide) (by decide)
theorem cp_D : Statement .cp_D := of_bytes 0 rfl rfl (by decide) (by decide)
theorem cp_E : Statement .cp_E := of_bytes 0 rfl rfl (by decide) (by decide)
theorem cp_H : Statement .cp_H := of_bytes 0 rfl rfl (by decide) (by decide)
theorem cp_L : Statement .cp_L := of_bytes 0 rfl rfl (by decide) (by decide)
theorem cp_atHL : Statement .cp_atHL := of_bytes 0 rfl rfl (by decide) (by decide)
theorem cp_A : Statement .cp_A := of_bytes 0 rfl rfl (by decide) (by decide)
theorem ret_NZ : Statement .ret_NZ := of_bytes 0 rfl rfl (by decide) (by decide)
theorem pop_BC : Statement .pop_BC := of_bytes 0 rfl rfl (by decide) (by decide)
theorem jp_NZ_nn (nn : Word) : Statement (.jp_NZ_nn nn) := of_bytes 2 rfl rfl (by decide) (by decide)
theorem jp_nn (nn : Word) : Statement (.jp_nn nn) := of_bytes 2 rfl rfl (by decide) (by decide)
theorem call_NZ_nn (nn : Word) : Statement (.call_NZ_nn nn) := of_bytes 2 rfl rfl (by decide) (by decide)
theorem push_BC : Statement .push_BC := of_bytes 0 rfl rfl (by decide) (by decide)
theorem add_A_n (n : Byte) : Statement (.add_A_n n) := of_bytes 1 rfl rfl (by decide) (by decide)
theorem rst_00 : Statement .rst_00 := of_bytes 0 rfl rfl (by decide) (by decide)
theorem ret_Z : Statement .ret_Z := of_bytes 0 rfl rfl (by decide) (by decide)
theorem ret : Statement .ret := of_bytes 0 rfl rfl (by decide) (by decide)
theorem jp_Z_nn (nn : Word) : Statement (.jp_Z_nn nn) := of_bytes 2 rfl rfl (by decide) (by decide)
theorem prefixCb : Statement .prefixCb := fun h => absurd h (by decide)
theorem call_Z_nn (nn : Word) : Statement (.call_Z_nn nn) := of_bytes 2 rfl rfl (by decide) (by decide)
theorem call_nn (nn : Word) : Statement (.call_nn nn) := of_bytes 2 rfl rfl (by decide) (by decide)
theorem adc_A_n (n : Byte) : Statement (.adc_A_n n) := of_bytes 1 rfl rfl (by decide) (by decide)
theorem rst_08 : Statement .rst_08 := of_bytes 0 rfl rfl (by decide) (by decide)
theorem ret_NC : Statement .ret_NC := of_bytes 0 rfl rfl (by decide) (by decide)
theorem pop_DE : Statement .pop_DE := of_bytes 0 rfl rfl (by decide) (by decide)
theorem jp_NC_nn (nn : Word) : Statement (.jp_NC_nn nn) := of_bytes 2 rfl rfl (by decide) (by decide)
theorem illegal_D3 : Statement .illegal_D3 := of_bytes 0 rfl rfl (by decide) (by decide)
theorem call_NC_nn (nn : Word) : Statement (.call_NC_nn nn) := of_bytes 2 rfl rfl (by decide) (by decide)
theorem push_DE : Statement .push_DE := of_bytes 0 rfl rfl (by decide) (by decide)
theorem sub_n (n : Byte) : Statement (.sub_n n) := of_bytes 1 rfl rfl (by decide) (by decide)
theorem rst_10 : Statement .rst_10 := of_bytes 0 rfl rfl (by decide) (by decide)
theorem ret_C : Statement .ret_C := of_bytes 0 rfl rfl (by decide) (by decide)
theorem reti : Statement .reti := of_bytes 0 rfl rfl (by decide) (by decide)
theorem jp_C_nn (nn : Word) : Statement (.jp_C_nn nn) := of_bytes 2 rfl rfl (by decide) (by decide)
theorem illegal_DB : Statement .illegal_DB := of_bytes 0 rfl rfl (by decide) (by decide)
theorem call_C_nn (nn : Word) : Statement (.call_C_nn nn) := of_bytes 2 rfl rfl (by decide) (by decide)
theorem illegal_DD : Statement .illegal_DD := of_bytes 0 rfl rfl (by decide) (by decide)
theorem sbc_A_n (n : Byte) : Statement (.sbc_A_n n) := of_bytes 1 rfl rfl (by decide) (by decide)
theorem rst_18 : Statement .rst_18 := of_bytes 0 rfl rfl (by decide) (by decide)
theorem ldh_atn_A (n : Byte) : Statement (.ldh_atn_A n) := of_bytes 1 rfl rfl (by decide) (by decide)
theorem pop_HL : Statement .pop_HL := of_bytes 0 rfl rfl (by decide) (by decide)
theorem ld_atC_A : Statement .ld_atC_A := of_bytes 0 rfl rfl (by decide) (by decide)
theorem illegal_E3 : Statement .illegal_E3 := of_bytes 0 rfl rfl (by decide) (by decide)
theorem illegal_E4 : Statement .illegal_E4 := of_bytes 0 rfl rfl (by decide) (by decide)
theorem push_HL : Statement .push_HL := of_bytes 0 rfl rfl (by decide) (by decide)
theorem and_n (n : Byte) : Statement (.and_n n) := of_bytes 1 rfl rfl (by decide) (by decide)
theorem rst_20 : Statement .rst_20 := of_bytes 0 rfl rfl (by decide) (by decide)
theorem add_SP_e (e : Byte) : Statement (.add_SP_e e) := of_bytes 1 rfl rfl (by decide) (by decide)
theorem jp_HL : Statement .jp_HL := of_bytes 0 rfl rfl (by decide) (by decide)
theorem ld_atnn_A (nn : Word) : Statement (.ld_atnn_A nn) := of_bytes 2 rfl rfl (by decide) (by decide)
theorem illegal_EB : Statement .illegal_EB := of_bytes 0 rfl rfl (by decide) (by decide)
theorem illegal_EC : Statement .illegal_EC := of_bytes 0 rfl rfl (by decide) (by decide)
theorem illegal_ED : Statement .illegal_ED := of_bytes 0 rfl rfl (by decide) (by decide)
theorem xor_n (n : Byte) : Statement (.xor_n n) := of_bytes 1 rfl rfl (by decide) (by decide)
theorem rst_28 : Statement .rst_28 := of_bytes 0 rfl rfl (by decide) (by decide)
theorem ldh_A_atn (n : Byte) : Statement (.ldh_A_atn n) := of_bytes 1 rfl rfl (by decide) (by decide)
theorem pop_AF : Statement .pop_AF := of_bytes 0 rfl rfl (by decide) (by decide)
theorem ld_A_atC : Statement .ld_A_atC := of_bytes 0 rfl rfl (by decide) (by decide)
theorem di : Statement .di := of_bytes 0 rfl rfl (by decide) (by decide)
theorem illegal_F4 : Statement .illegal_F4 := of_bytes 0 rfl rfl (by decide) (by decide)
theorem push_AF : Statement .push_AF := of_bytes 0 rfl rfl (by decide) (by decide)
theorem or_n (n : Byte) : Statement (.or_n n) := of_bytes 1 rfl rfl (by decide) (by decide)
theorem rst_30 : Statement .rst_30 := of_bytes 0 rfl rfl (by decide) (by decide)
theorem ld_HL_SP_e (e : Byte) : Statement (.ld_HL_SP_e e) := of_bytes 1 rfl rfl (by decide) (by decide)
theorem ld_SP_HL : Statement .ld_SP_HL := of_bytes 0 rfl rfl (by decide) (by decide)
theorem ld_A_atnn (nn : Word) : Statement (.ld_A_atnn nn) := of_bytes 2 rfl rfl (by decide) (by decide)
theorem ei : Statement .ei := of_bytes 0 rfl rfl (by decide) (by decide)
theorem illegal_FC : Statement .illegal_FC := of_bytes 0 rfl rfl (by decide) (by decide)
theorem illegal_FD : Statement .illegal_FD := of_bytes 0 rfl rfl (by decide) (by decide)
theorem cp_n (n : Byte) : Statement (.cp_n n) := of_bytes 1 rfl rfl (by decide) (by decide)
theorem rst_38 : Statement .rst_38 := of_bytes 0 rfl rfl (by decide) (by decide)
theorem rlc_B : Statement .rlc_B := of_bytes 1 rfl rfl (by decide) (by decide)
theorem rlc_C : Statement .rlc_C := of_bytes 1 rfl rfl (by decide) (by decide)
theorem rlc_D : Statement .rlc_D := of_bytes 1 rfl rfl (by decide) (by decide)
theorem rlc_E : Statement .rlc_E := of_bytes 1 rfl rfl (by decide) (by decide)
theorem rlc_H : Statement .rlc_H := of_bytes 1 rfl rfl (by decide) (by decide)
theorem rlc_L : Statement .rlc_L := of_bytes 1 rfl rfl (by decide) (by decide)
theorem rlc_atHL : Statement .rlc_atHL := of_bytes 1 rfl rfl (by decide) (by decide)
theorem rlc_A : Statement .rlc_A := of_bytes 1 rfl rfl (by decide) (by decide)
theorem rrc_B : Statement .rrc_B := of_bytes 1 rfl rfl (by decide) (by decide)
theorem rrc_C : Statement .rrc_C := of_bytes 1 rfl rfl (by decide) (by decide)
theorem rrc_D : Statement .rrc_D := of_bytes 1 rfl rfl (by decide) (by decide)
theorem rrc_E : Statement .rrc_E := of_bytes 1 rfl rfl (by decide) (by decide)
theorem rrc_H : Statement .rrc_H := of_bytes 1 rfl rfl (by decide) (by decide)
theorem rrc_L : Statement .rrc_L := of_bytes 1 rfl rfl (by decide) (by decide)
theorem rrc_atHL : Statement .rrc_atHL := of_bytes 1 rfl rfl (by decide) (by decide)
theorem rrc_A : Statement .rrc_A := of_bytes 1 rfl rfl (by decide) (by decide)
theorem rl_B : Statement .rl_B := of_bytes 1 rfl rfl (by decide) (by decide)
theorem rl_C : Statement .rl_C := of_bytes 1 rfl rfl (by decide) (by decide)
theorem rl_D : Statement .rl_D := of_bytes 1 rfl rfl (by decide) (by decide)
theorem rl_E : Statement .rl_E := of_bytes 1 rfl rfl (by decide) (by decide)
theorem rl_H : Statement .rl_H := of_bytes 1 rfl rfl (by decide) (by decide)
theorem rl_L : Statement .rl_L := of_bytes 1 rfl rfl (by decide) (by decide)
theorem rl_atHL : Statement .rl_atHL := of_bytes 1 rfl rfl (by decide) (by decide)
theorem rl_A : Statement .rl_A := of_bytes 1 rfl rfl (by decide) (by decide)
theorem rr_B : Statement .rr_B := of_bytes 1 rfl rfl (by decide) (by decide)
theorem rr_C : Statement .rr_C := of_bytes 1 rfl rfl (by decide) (by decide)
theorem rr_D : Statement .rr_D := of_bytes 1 rfl rfl (by decide) (by decide)
theorem rr_E : Statement .rr_E := of_bytes 1 rfl rfl (by decide) (by decide)
theorem rr_H : Statement .rr_H := of_bytes 1 rfl rfl (by decide) (by decide)
theorem rr_L : Statement .rr_L := of_bytes 1 rfl rfl (by decide) (by decide)
theorem rr_atHL : Statement .rr_atHL := of_bytes 1 rfl rfl (by decide) (by decide)
theorem rr_A : Statement .rr_A := of_bytes 1 rfl rfl (by decide) (by decide)
theorem sla_B : Statement .sla_B := of_bytes 1 rfl rfl (by decide) (by decide)
theorem sla_C : Statement .sla_C := of_bytes 1 rfl rfl (by decide) (by decide)
theorem sla_D : Statement .sla_D := of_bytes 1 rfl rfl (by decide) (by decide)
theorem sla_E : Statement .sla_E := of_bytes 1 rfl rfl (by decide) (by decide)
theorem sla_H : Statement .sla_H := of_bytes 1 rfl rfl (by decide) (by decide)
theorem sla_L : Statement .sla_L := of_bytes 1 rfl rfl (by decide) (by decide)
theorem sla_atHL : Statement .sla_atHL := of_bytes 1 rfl rfl (by decide) (by decide)
theorem sla_A : Statement .sla_A := of_bytes 1 rfl rfl (by decide) (by decide)
theorem sra_B : Statement .sra_B := of_bytes 1 rfl rfl (by decide) (by decide)
theorem sra_C : Statement .sra_C := of_bytes 1 rfl rfl (by decide) (by decide)
theorem sra_D : Statement .sra_D := of_bytes 1 rfl rfl (by decide) (by decide)
theorem sra_E : Statement .sra_E := of_bytes 1 rfl rfl (by decide) (by decide)
theorem sra_H : Statement .sra_H := of_bytes 1 rfl rfl (by decide) (by decide)
theorem sra_L : Statement .sra_L := of_bytes 1 rfl rfl (by decide) (by decide)
theorem sra_atHL : Statement .sra_atHL := of_bytes 1 rfl rfl (by decide) (by decide)
theorem sra_A : Statement .sra_A := of_bytes 1 rfl rfl (by decide) (by decide)
theorem swap_B : Statement .swap_B := of_bytes 1 rfl rfl (by decide) (by decide)
theorem swap_C : Statement .swap_C := of_bytes 1 rfl rfl (by decide) (by decide)
theorem swap_D : Statement .swap_D := of_bytes 1 rfl rfl (by decide) (by decide)
theorem swap_E : Statement .swap_E := of_bytes 1 rfl rfl (by decide) (by decide)
theorem swap_H : Statement .swap_H := of_bytes 1 rfl rfl (by decide) (by decide)
theorem swap_L : Statement .swap_L := of_bytes 1 rfl rfl (by decide) (by decide)
theorem swap_atHL : Statement .swap_atHL := of_bytes 1 rfl rfl (by decide) (by decide)
theorem swap_A : Statement .swap_A := of_bytes 1 rfl rfl (by decide) (by decide)
theorem srl_B : Statement .srl_B := of_bytes 1 rfl rfl (by decide) (by decide)
theorem srl_C : Statement .srl_C := of_bytes 1 rfl rfl (by decide) (by decide)
theorem srl_D : Statement .srl_D := of_bytes 1 rfl rfl (by decide) (by decide)
theorem srl_E : Statement .srl_E := of_bytes 1 rfl rfl (by decide) (by decide)
theorem srl_H : Statement .srl_H := of_bytes 1 rfl rfl (by decide) (by decide)
theorem srl_L : Statement .srl_L := of_bytes 1 rfl rfl (by decide) (by decide)
theorem srl_atHL : Statement .srl_atHL := of_bytes 1 rfl rfl (by decide) (by decide)
theorem srl_A : Statement .srl_A := of_bytes 1 rfl rfl (by decide) (by decide)
theorem bit_0_B : Statement .bit_0_B := of_bytes 1 rfl rfl (by decide) (by decide)
theorem bit_0_C : Statement .bit_0_C := of_bytes 1 rfl rfl (by decide) (by decide)
theorem bit_0_D : Statement .bit_0_D := of_bytes 1 rfl rfl (by decide) (by decide)
theorem bit_0_E : Statement .bit_0_E := of_bytes 1 rfl rfl (by decide) (by decide)
theorem bit_0_H : Statement .bit_0_H := of_bytes 1 rfl rfl (by decide) (by decide)
theorem bit_0_L : Statement .bit_0_L := of_bytes 1 rfl rfl (by decide) (by decide)
theorem bit_0_atHL : Statement .bit_0_atHL := of_bytes 1 rfl rfl (by decide) (by decide)
theorem bit_0_A : Statement .bit_0_A := of_bytes 1 rfl rfl (by decide) (by decide)
theorem bit_1_B : Statement .bit_1_B := of_bytes 1 rfl rfl (by decide) (by decide)
theorem bit_1_C : Statement .bit_1_C := of_bytes 1 rfl rfl (by decide) (by decide)
theorem bit_1_D : Statement .bit_1_D := of_bytes 1 rfl rfl (by decide) (by decide)
theorem bit_1_E : Statement .bit_1_E := of_bytes 1 rfl rfl (by decide) (by decide)
theorem bit_1_H : Statement .bit_1_H := of_bytes 1 rfl rfl (by decide) (by decide)
theorem bit_1_L : Statement .bit_1_L := of_bytes 1 rfl rfl (by decide) (by decide)
theorem bit_1_atHL : Statement .bit_1_atHL := of_bytes 1 rfl rfl (by decide) (by decide)
theorem bit_1_A : Statement .bit_1_A := of_bytes 1 rfl rfl (by decide) (by decide)
theorem bit_2_B : Statement .bit_2_B := of_bytes 1 rfl rfl (by decide) (by decide)
theorem bit_2_C : Statement .bit_2_C := of_bytes 1 rfl rfl (by decide) (by decide)
theorem bit_2_D : Statement .bit_2_D := of_bytes 1 rfl rfl (by decide) (by decide)
theorem bit_2_E : Statement .bit_2_E := of_bytes 1 rfl rfl (by decide) (by decide)
theorem bit_2_H : Statement .bit_2_H := of_bytes 1 rfl rfl (by decide) (by decide)
theorem bit_2_L : Statement .bit_2_L := of_bytes 1 rfl rfl (by decide) (by decide)
theorem bit_2_atHL : Statement .bit_2_atHL := of_bytes 1 rfl rfl (by decide) (by decide)
theorem bit_2_A : Statement .bit_2_A := of_bytes 1 rfl rfl (by decide) (by decide)
theorem bit_3_B : Statement .bit_3_B := of_bytes 1 rfl rfl (by decide) (by decide)
theorem bit_3_C : Statement .bit_3_C := of_bytes 1 rfl rfl (by decide) (by decide)
theorem bit_3_D : Statement .bit_3_D := of_bytes 1 rfl rfl (by decide) (by decide)
theorem bit_3_E : Statement .bit_3_E := of_bytes 1 rfl rfl (by decide) (by decide)
theorem bit_3_H : Statement .bit_3_H := of_bytes 1 rfl rfl (by decide) (by decide)
theorem bit_3_L : Statement .bit_3_L := of_bytes 1 rfl rfl (by decide) (by decide)
theorem bit_3_atHL : Statement .bit_3_atHL := of_bytes 1 rfl rfl (by decide) (by decide)
theorem bit_3_A : Statement .bit_3_A := of_bytes 1 rfl rfl (by decide) (by decide)
theorem bit_4_B : Statement .bit_4_B := of_bytes 1 rfl rfl (by decide) (by decide)
theorem bit_4_C : Statement .bit_4_C := of_bytes 1 rfl rfl (by decide) (by decide)
theorem bit_4_D : Statement .bit_4_D := of_bytes 1 rfl rfl (by decide) (by decide)
theorem bit_4_E : Statement .bit_4_E := of_bytes 1 rfl rfl (by decide) (by decide)
theorem bit_4_H : Statement .bit_4_H := of_bytes 1 rfl rfl (by decide) (by decide)
theorem bit_4_L : Statement .bit_4_L := of_bytes 1 rfl rfl (by decide) (by decide)
theorem bit_4_atHL : Statement .bit_4_atHL := of_bytes 1 rfl rfl (by decide) (by decide)
theorem bit_4_A : Statement .bit_4_A := of_bytes 1 rfl rfl (by decide) (by decide)
theorem bit_5_B : Statement .bit_5_B := of_bytes 1 rfl rfl (by decide) (by decide)
theorem bit_5_C : Statement .bit_5_C := of_bytes 1 rfl rfl (by decide) (by decide)
theorem bit_5_D : Statement .bit_5_D := of_bytes 1 rfl rfl (by decide) (by decide)
theorem bit_5_E : Statement .bit_5_E := of_bytes 1 rfl rfl (by decide) (by decide)
theorem bit_5_H : Statement .bit_5_H := of_bytes 1 rfl rfl (by decide) (by decide)
theorem bit_5_L : Statement .bit_5_L := of_bytes 1 rfl rfl (by decide) (by decide)
theorem bit_5_atHL : Statement .bit_5_atHL := of_bytes 1 rfl rfl (by decide) (by decide)
theorem bit_5_A : Statement .bit_5_A := of_bytes 1 rfl rfl (by decide) (by decide)
theorem bit_6_B : Statement .bit_6_B := of_bytes 1 rfl rfl (by decide) (by decide)
theorem bit_6_C : Statement .bit_6_C := of_bytes 1 rfl rfl (by decide) (by decide)
theorem bit_6_D : Statement .bit_6_D := of_bytes 1 rfl rfl (by decide) (by decide)
theorem bit_6_E : Statement .bit_6_E := of_bytes 1 rfl rfl (by decide) (by decide)
theorem bit_6_H : Statement .bit_6_H := of_bytes 1 rfl rfl (by decide) (by decide)
theorem bit_6_L : Statement .bit_6_L := of_bytes 1 rfl rfl (by decide) (by decide)
theorem bit_6_atHL : Statement .bit_6_atHL := of_bytes 1 rfl rfl (by decide) (by decide)
theorem bit_6_A : Statement .bit_6_A := of_bytes 1 rfl rfl (by decide) (by decide)
theorem bit_7_B : Statement .bit_7_B := of_bytes 1 rfl rfl (by decide) (by decide)
theorem bit_7_C : Statement .bit_7_C := of_bytes 1 rfl rfl (by decide) (by decide)
theorem bit_7_D : Statement .bit_7_D := of_bytes 1 rfl rfl (by decide) (by decide)
theorem bit_7_E : Statement .bit_7_E := of_bytes 1 rfl rfl (by decide) (by decide)
theorem bit_7_H : Statement .bit_7_H := of_bytes 1 rfl rfl (by decide) (by decide)
theorem bit_7_L : Statement .bit_7_L := of_bytes 1 rfl rfl (by decide) (by decide)
theorem bit_7_atHL : Statement .bit_7_atHL := of_bytes 1 rfl rfl (by decide) (by decide)
theorem bit_7_A : Statement .bit_7_A := of_bytes 1 rfl rfl (by decide) (by decide)
theorem res_0_B : Statement .res_0_B := of_bytes 1 rfl rfl (by decide) (by decide)
theorem res_0_C : Statement .res_0_C := of_bytes 1 rfl rfl (by decide) (by decide)
theorem res_0_D : Statement .res_0_D := of_bytes 1 rfl rfl (by decide) (by decide)
theorem res_0_E : Statement .res_0_E := of_bytes 1 rfl rfl (by decide) (by decide)
theorem res_0_H : Statement .res_0_H := of_bytes 1 rfl rfl (by decide) (by decide)
theorem res_0_L : Statement .res_0_L := of_bytes 1 rfl rfl (by decide) (by decide)
theorem res_0_atHL : Statement .res_0_atHL := of_bytes 1 rfl rfl (by decide) (by decide)
theorem res_0_A : Statement .res_0_A := of_bytes 1 rfl rfl (by decide) (by decide)
theorem res_1_B : Statement .res_1_B := of_bytes 1 rfl rfl (by decide) (by decide)
theorem res_1_C : Statement .res_1_C := of_bytes 1 rfl rfl (by decide) (by decide)
theorem res_1_D : Statement .res_1_D := of_bytes 1 rfl rfl (by decide) (by decide)
theorem res_1_E : Statement .res_1_E := of_bytes 1 rfl rfl (by decide) (by decide)
theorem res_1_H : Statement .res_1_H := of_bytes 1 rfl rfl (by decide) (by decide)
theorem res_1_L : Statement .res_1_L := of_bytes 1 rfl rfl (by decide) (by decide)
theorem res_1_atHL : Statement .res_1_atHL := of_bytes 1 rfl rfl (by decide) (by decide)
theorem res_1_A : Statement .res_1_A := of_bytes 1 rfl rfl (by decide) (by decide)
theorem res_2_B : Statement .res_2_B := of_bytes 1 rfl rfl (by decide) (by decide)
theorem res_2_C : Statement .res_2_C := of_bytes 1 rfl rfl (by decide) (by decide)
theorem res_2_D : Statement .res_2_D := of_bytes 1 rfl rfl (by decide) (by decide)
theorem res_2_E : Statement .res_2_E := of_bytes 1 rfl rfl (by decide) (by decide)
theorem res_2_H : Statement .res_2_H := of_bytes 1 rfl rfl (by decide) (by decide)
theorem res_2_L : Statement .res_2_L := of_bytes 1 rfl rfl (by decide) (by decide)
theorem res_2_atHL : Statement .res_2_atHL := of_bytes 1 rfl rfl (by decide) (by decide)
theorem res_2_A : Statement .res_2_A := of_bytes 1 rfl rfl (by decide) (by decide)
theorem res_3_B : Statement .res_3_B := of_bytes 1 rfl rfl (by decide) (by decide)
theorem res_3_C : Statement .res_3_C := of_bytes 1 rfl rfl (by decide) (by decide)
theorem res_3_D : Statement .res_3_D := of_bytes 1 rfl rfl (by decide) (by decide)
theorem res_3_E : Statement .res_3_E := of_bytes 1 rfl rfl (by decide) (by decide)
theorem res_3_H : Statement .res_3_H := of_bytes 1 rfl rfl (by decide) (by decide)
theorem res_3_L : Statement .res_3_L := of_bytes 1 rfl rfl (by decide) (by decide)
theorem res_3_atHL : Statement .res_3_atHL := of_bytes 1 rfl rfl (by decide) (by decide)
theorem res_3_A : Statement .res_3_A := of_bytes 1 rfl rfl (by decide) (by decide)
theorem res_4_B : Statement .res_4_B := of_bytes 1 rfl rfl (by decide) (by decide)
theorem res_4_C : Statement .res_4_C := of_bytes 1 rfl rfl (by decide) (by decide)
theorem res_4_D : Statement .res_4_D := of_bytes 1 rfl rfl (by decide) (by decide)
theorem res_4_E : Statement .res_4_E := of_bytes 1 rfl rfl (by decide) (by decide)
theorem res_4_H : Statement .res_4_H := of_bytes 1 rfl rfl (by decide) (by decide)
theorem res_4_L : Statement .res_4_L := of_bytes 1 rfl rfl (by decide) (by decide)
theorem res_4_atHL : Statement .res_4_atHL := of_bytes 1 rfl rfl (by decide) (by decide)
theorem res_4_A : Statement .res_4_A := of_bytes 1 rfl rfl (by decide) (by decide)
theorem res_5_B : Statement .res_5_B := of_bytes 1 rfl rfl (by decide) (by decide)
theorem res_5_C : Statement .res_5_C := of_bytes 1 rfl rfl (by decide) (by decide)
theorem res_5_D : Statement .res_5_D := of_bytes 1 rfl rfl (by decide) (by decide)
theorem res_5_E : Statement .res_5_E := of_bytes 1 rfl rfl (by decide) (by decide)
theorem res_5_H : Statement .res_5_H := of_bytes 1 rfl rfl (by decide) (by decide)
theorem res_5_L : Statement .res_5_L := of_bytes 1 rfl rfl (by decide) (by decide)
theorem res_5_atHL : Statement .res_5_atHL := of_bytes 1 rfl rfl (by decide) (by decide)
theorem res_5_A : Statement .res_5_A := of_bytes 1 rfl rfl (by decide) (by decide)
theorem res_6_B : Statement .res_6_B := of_bytes 1 rfl rfl (by decide) (by decide)
theorem res_6_C : Statement .res_6_C := of_bytes 1 rfl rfl (by decide) (by decide)
theorem res_6_D : Statement .res_6_D := of_bytes 1 rfl rfl (by decide) (by decide)
theorem res_6_E : Statement .res_6_E := of_bytes 1 rfl rfl (by decide) (by decide)
theorem res_6_H : Statement .res_6_H := of_bytes 1 rfl rfl (by decide) (by decide)
theorem res_6_L : Statement .res_6_L := of_bytes 1 rfl rfl (by decide) (by decide)
theorem res_6_atHL : Statement .res_6_atHL := of_bytes 1 rfl rfl (by decide) (by decide)
theorem res_6_A : Statement .res_6_A := of_bytes 1 rfl rfl (by decide) (by decide)
theorem res_7_B : Statement .res_7_B := of_bytes 1 rfl rfl (by decide) (by decide)
theorem res_7_C : Statement .res_7_C := of_bytes 1 rfl rfl (by decide) (by decide)
theorem res_7_D : Statement .res_7_D := of_bytes 1 rfl rfl (by decide) (by decide)
theorem res_7_E : Statement .res_7_E := of_bytes 1 rfl rfl (by decide) (by decide)
theorem res_7_H : Statement .res_7_H := of_bytes 1 rfl rfl (by decide) (by decide)
theorem res_7_L : Statement .res_7_L := of_bytes 1 rfl rfl (by decide) (by decide)
theorem res_7_atHL : Statement .res_7_atHL := of_bytes 1 rfl rfl (by decide) (by decide)
theorem res_7_A : Statement .res_7_A := of_bytes 1 rfl rfl (by decide) (by decide)
theorem set_0_B : Statement .set_0_B := of_bytes 1 rfl rfl (by decide) (by decide)
theorem set_0_C : Statement .set_0_C := of_bytes 1 rfl rfl (by decide) (by decide)
theorem set_0_D : Statement .set_0_D := of_bytes 1 rfl rfl (by decide) (by decide)
theorem set_0_E : Statement .set_0_E := of_bytes 1 rfl rfl (by decide) (by decide)
theorem set_0_H : Statement .set_0_H := of_bytes 1 rfl rfl (by decide) (by decide)
theorem set_0_L : Statement .set_0_L := of_bytes 1 rfl rfl (by decide) (by decide)
theorem set_0_atHL : Statement .set_0_atHL := of_bytes 1 rfl rfl (by decide) (by decide)
theorem set_0_A : Statement .set_0_A := of_bytes 1 rfl rfl (by decide) (by decide)
theorem set_1_B : Statement .set_1_B := of_bytes 1 rfl rfl (by decide) (by decide)
theorem set_1_C : Statement .set_1_C := of_bytes 1 rfl rfl (by decide) (by decide)
theorem set_1_D : Statement .set_1_D := of_bytes 1 rfl rfl (by decide) (by decide)
theorem set_1_E : Statement .set_1_E := of_bytes 1 rfl rfl (by decide) (by decide)
theorem set_1_H : Statement .set_1_H := of_bytes 1 rfl rfl (by decide) (by decide)
theorem set_1_L : Statement .set_1_L := of_bytes 1 rfl rfl (by decide) (by decide)
theorem set_1_atHL : Statement .set_1_atHL := of_bytes 1 rfl rfl (by decide) (by decide)
theorem set_1_A : Statement .set_1_A := of_bytes 1 rfl rfl (by decide) (by decide)
theorem set_2_B : Statement .set_2_B := of_bytes 1 rfl rfl (by decide) (by decide)
theorem set_2_C : Statement .set_2_C := of_bytes 1 rfl rfl (by decide) (by decide)
theorem set_2_D : Statement .set_2_D := of_bytes 1 rfl rfl (by decide) (by decide)
theorem set_2_E : Statement .set_2_E := of_bytes 1 rfl rfl (by decide) (by decide)
theorem set_2_H : Statement .set_2_H := of_bytes 1 rfl rfl (by decide) (by decide)
theorem set_2_L : Statement .set_2_L := of_bytes 1 rfl rfl (by decide) (by decide)
theorem set_2_atHL : Statement .set_2_atHL := of_bytes 1 rfl rfl (by decide) (by decide)
theorem set_2_A : Statement .set_2_A := of_bytes 1 rfl rfl (by decide) (by decide)
theorem set_3_B : Statement .set_3_B := of_bytes 1 rfl rfl (by decide) (by decide)
theorem set_3_C : Statement .set_3_C := of_bytes 1 rfl rfl (by decide) (by decide)
theorem set_3_D : Statement .set_3_D := of_bytes 1 rfl rfl (by decide) (by decide)
theorem set_3_E : Statement .set_3_E := of_bytes 1 rfl rfl (by decide) (by decide)
theorem set_3_H : Statement .set_3_H := of_bytes 1 rfl rfl (by decide) (by decide)
theorem set_3_L : Statement .set_3_L := of_bytes 1 rfl rfl (by decide) (by decide)
theorem set_3_atHL : Statement .set_3_atHL := of_bytes 1 rfl rfl (by decide) (by decide)
theorem set_3_A : Statement .set_3_A := of_bytes 1 rfl rfl (by decide) (by decide)
theorem set_4_B : Statement .set_4_B := of_bytes 1 rfl rfl (by decide) (by decide)
theorem set_4_C : Statement .set_4_C := of_bytes 1 rfl rfl (by decide) (by decide)
theorem set_4_D : Statement .set_4_D := of_bytes 1 rfl rfl (by decide) (by decide)
theorem set_4_E : Statement .set_4_E := of_bytes 1 rfl rfl (by decide) (by decide)
theorem set_4_H : Statement .set_4_H := of_bytes 1 rfl rfl (by decide) (by decide)
theorem set_4_L : Statement .set_4_L := of_bytes 1 rfl rfl (by decide) (by decide)
theorem set_4_atHL : Statement .set_4_atHL := of_bytes 1 rfl rfl (by decide) (by decide)
theorem set_4_A : Statement .set_4_A := of_bytes 1 rfl rfl (by decide) (by decide)
theorem set_5_B : Statement .set_5_B := of_bytes 1 rfl rfl (by decide) (by decide)
theorem set_5_C : Statement .set_5_C := of_bytes 1 rfl rfl (by decide) (by decide)
theorem set_5_D : Statement .set_5_D := of_bytes 1 rfl rfl (by decide) (by decide)
theorem set_5_E : Statement .set_5_E := of_bytes 1 rfl rfl (by decide) (by decide)
theorem set_5_H : Statement .set_5_H := of_bytes 1 rfl rfl (by decide) (by decide)
theorem set_5_L : Statement .set_5_L := of_bytes 1 rfl rfl (by decide) (by decide)
theorem set_5_atHL : Statement .set_5_atHL := of_bytes 1 rfl rfl (by decide) (by decide)
theorem set_5_A : Statement .set_5_A := of_bytes 1 rfl rfl (by decide) (by decide)
theorem set_6_B : Statement .set_6_B := of_bytes 1 rfl rfl (by decide) (by decide)
theorem set_6_C : Statement .set_6_C := of_bytes 1 rfl rfl (by decide) (by decide)
theorem set_6_D : Statement .set_6_D := of_bytes 1 rfl rfl (by decide) (by decide)
theorem set_6_E : Statement .set_6_E := of_bytes 1 rfl rfl (by decide) (by decide)
theorem set_6_H : Statement .set_6_H := of_bytes 1 rfl rfl (by decide) (by decide)
theorem set_6_L : Statement .set_6_L := of_bytes 1 rfl rfl (by decide) (by decide)
theorem set_6_atHL : Statement .set_6_atHL := of_bytes 1 rfl rfl (by decide) (by decide)
theorem set_6_A : Statement .set_6_A := of_bytes 1 rfl rfl (by decide) (by decide)
theorem set_7_B : Statement .set_7_B := of_bytes 1 rfl rfl (by decide) (by decide)
theorem set_7_C : Statement .set_7_C := of_bytes 1 rfl rfl (by decide) (by decide)
theorem set_7_D : Statement .set_7_D := of_bytes 1 rfl rfl (by decide) (by decide)
theorem set_7_E : Statement .set_7_E := of_bytes 1 rfl rfl (by decide) (by decide)
theorem set_7_H : Statement .set_7_H := of_bytes 1 rfl rfl (by decide) (by decide)
theorem set_7_L : Statement .set_7_L := of_bytes 1 rfl rfl (by decide) (by decide)
theorem set_7_atHL : Statement .set_7_atHL := of_bytes 1 rfl rfl (by decide) (by decide)
theorem set_7_A : Statement .set_7_A := of_bytes 1 rfl rfl (by decide) (by decide)

end Sys2Proof.Laws.EncodedLength
end

