-- ==== Sys2Proof/Laws/Step.lean ====
section
/-! SUPPORT. What one step does, by the run state (rule R300), in the terms of Sys2Proof/Machine/Fetch.lean. -/

namespace Sys2Proof.Machine

/-- A Running step is the instruction's next state, and then what follows it. -/
theorem step_of_running {s t : State} (hr : s.run = .running)
    (he : exec (fetchInstr (beginStep s)) (afterFetch (beginStep s)) = .next t) :
    step s = .next (afterExec (instrCycles (fetchInstr (beginStep s)) s) t) := by
  unfold step
  simp only [hr, he]

/-- A Halted step is phases 2 and 3 (rule R303). -/
theorem step_of_halted {s : State} (hr : s.run = .halted) : step s = .next (finishStep s.params.timing.haltStepCycles (beginStep s)) := by
  unfold step
  simp only [hr]

/-- There is no step from Faulted (rule R320). -/
theorem step_of_faulted {s : State} {op : Byte} (hr : s.run = .faulted op) : step s = .fault (.decodeFault op) := by
  unfold step
  simp only [hr]

/-- One step more of a run. -/
theorem run_next {n : Nat} {s t : State} (h : step s = .next t) :
    Host.Core.run Sys2Proof.core (n + 1) s = Host.Core.run Sys2Proof.core n t := by
  have hs : Sys2Proof.core.step s = .next t := h
  exact (Host.Core.run.eq_2 Sys2Proof.core s n).trans (by rw [hs])

theorem serviceInterrupts_params (s : State) : (serviceInterrupts s).params = s.params := by
  unfold serviceInterrupts dispatch wake
  simp only
  split_ifs <;> first | rfl | exact (push16_cpu _ _).params

theorem finishStep_params (n : Nat) (s : State) : (finishStep n s).params = s.params :=
  (cpuSame_broadcast _ _).params.trans (serviceInterrupts_params s)

theorem afterExec_params (n : Nat) (s : State) : (afterExec n s).params = s.params := by
  unfold afterExec
  split <;> first | rfl | exact finishStep_params n s

/-- With nothing dispatched and nothing to wake for, servicing only ends the enable latency (rules R301, R309). -/
theorem serviceInterrupts_of_guard_false {s : State} (h : s.serviceGuard = false) :
    serviceInterrupts s = s.setImePending false ∧ serviceCycles s = 0 := by
  simp [serviceInterrupts, serviceCycles, State.dispatches, h]

/-- While the enable latency lasts nothing is dispatched (rules R301, R309). -/
theorem dispatches_of_pending {s : State} (h : s.irq.imePending = true) : s.dispatches = false := by
  simp [State.dispatches, h]

end Sys2Proof.Machine
end

