-- ==== Sys2Proof/Tests/Slice0.lean ====
section
/-! SUPPORT. Tests: the ill-formed term, the words of every instruction, one step of an instruction on the spec's own test
vectors (spec/95_test_vectors.md and the examples of the rules), and for every statement with hypotheses a state and
operands that meet them. The expected results are the spec's. -/

namespace Sys2Proof.Tests

open Sys2Proof Sys2Proof.Machine

/-! ## Well-formedness -/

/-- The one check: the prefix byte alone is no instruction (rule R102). -/
theorem test_prefix_alone_ill_formed : Instr.prefixCb.wellFormed = false := by decide

theorem test_ordinary_well_formed : (Instr.ld_BC_nn 0xFFFF).wellFormed = true ∧ Instr.illegal_DD.wellFormed = true := by
  decide

/-! ## Decoding

The words are those of the grid of rule R120 and of the extended opcodes of rules R240 to R261, one row of sixteen opcodes
a list; an operand byte is `5A`, an operand word `A5 C3` (low byte first, rule R108). -/

/-- Every word of the list decodes, whole, to the instruction beside it. -/
def decodesTo (l : List (List Byte × Instr)) : Bool :=
  l.all fun p =>
    match decode p.1 with
    | .ok (i, rest) => decide (i = p.2 ∧ rest = [])
    | .error _ => false

theorem test_decode_00 : decodesTo [
    ([0x00], .nop), ([0x01, 0xA5, 0xC3], .ld_BC_nn 0xC3A5), ([0x02], .ld_atBC_A), ([0x03], .inc_BC),
    ([0x04], .inc_B), ([0x05], .dec_B), ([0x06, 0x5A], .ld_B_n 0x5A), ([0x07], .rlca),
    ([0x08, 0xA5, 0xC3], .ld_atnn_SP 0xC3A5), ([0x09], .add_HL_BC), ([0x0A], .ld_A_atBC), ([0x0B], .dec_BC),
    ([0x0C], .inc_C), ([0x0D], .dec_C), ([0x0E, 0x5A], .ld_C_n 0x5A), ([0x0F], .rrca)] = true := by decide

theorem test_decode_10 : decodesTo [
    ([0x10, 0x5A], .stop 0x5A), ([0x11, 0xA5, 0xC3], .ld_DE_nn 0xC3A5), ([0x12], .ld_atDE_A), ([0x13], .inc_DE),
    ([0x14], .inc_D), ([0x15], .dec_D), ([0x16, 0x5A], .ld_D_n 0x5A), ([0x17], .rla), ([0x18, 0x5A], .jr_e 0x5A),
    ([0x19], .add_HL_DE), ([0x1A], .ld_A_atDE), ([0x1B], .dec_DE), ([0x1C], .inc_E), ([0x1D], .dec_E),
    ([0x1E, 0x5A], .ld_E_n 0x5A), ([0x1F], .rra)] = true := by decide

theorem test_decode_20 : decodesTo [
    ([0x20, 0x5A], .jr_NZ_e 0x5A), ([0x21, 0xA5, 0xC3], .ld_HL_nn 0xC3A5), ([0x22], .ld_atHLinc_A),
    ([0x23], .inc_HL), ([0x24], .inc_H), ([0x25], .dec_H), ([0x26, 0x5A], .ld_H_n 0x5A), ([0x27], .daa),
    ([0x28, 0x5A], .jr_Z_e 0x5A), ([0x29], .add_HL_HL), ([0x2A], .ld_A_atHLinc), ([0x2B], .dec_HL),
    ([0x2C], .inc_L), ([0x2D], .dec_L), ([0x2E, 0x5A], .ld_L_n 0x5A), ([0x2F], .cpl)] = true := by decide

theorem test_decode_30 : decodesTo [
    ([0x30, 0x5A], .jr_NC_e 0x5A), ([0x31, 0xA5, 0xC3], .ld_SP_nn 0xC3A5), ([0x32], .ld_atHLdec_A),
    ([0x33], .inc_SP), ([0x34], .inc_atHL), ([0x35], .dec_atHL), ([0x36, 0x5A], .ld_atHL_n 0x5A), ([0x37], .scf),
    ([0x38, 0x5A], .jr_C_e 0x5A), ([0x39], .add_HL_SP), ([0x3A], .ld_A_atHLdec), ([0x3B], .dec_SP),
    ([0x3C], .inc_A), ([0x3D], .dec_A), ([0x3E, 0x5A], .ld_A_n 0x5A), ([0x3F], .ccf)] = true := by decide

theorem test_decode_40 : decodesTo [
    ([0x40], .ld_B_B), ([0x41], .ld_B_C), ([0x42], .ld_B_D), ([0x43], .ld_B_E), ([0x44], .ld_B_H),
    ([0x45], .ld_B_L), ([0x46], .ld_B_atHL), ([0x47], .ld_B_A), ([0x48], .ld_C_B), ([0x49], .ld_C_C),
    ([0x4A], .ld_C_D), ([0x4B], .ld_C_E), ([0x4C], .ld_C_H), ([0x4D], .ld_C_L), ([0x4E], .ld_C_atHL),
    ([0x4F], .ld_C_A)] = true := by decide

theorem test_decode_50 : decodesTo [
    ([0x50], .ld_D_B), ([0x51], .ld_D_C), ([0x52], .ld_D_D), ([0x53], .ld_D_E), ([0x54], .ld_D_H),
    ([0x55], .ld_D_L), ([0x56], .ld_D_atHL), ([0x57], .ld_D_A), ([0x58], .ld_E_B), ([0x59], .ld_E_C),
    ([0x5A], .ld_E_D), ([0x5B], .ld_E_E), ([0x5C], .ld_E_H), ([0x5D], .ld_E_L), ([0x5E], .ld_E_atHL),
    ([0x5F], .ld_E_A)] = true := by decide

theorem test_decode_60 : decodesTo [
    ([0x60], .ld_H_B), ([0x61], .ld_H_C), ([0x62], .ld_H_D), ([0x63], .ld_H_E), ([0x64], .ld_H_H),
    ([0x65], .ld_H_L), ([0x66], .ld_H_atHL), ([0x67], .ld_H_A), ([0x68], .ld_L_B), ([0x69], .ld_L_C),
    ([0x6A], .ld_L_D), ([0x6B], .ld_L_E), ([0x6C], .ld_L_H), ([0x6D], .ld_L_L), ([0x6E], .ld_L_atHL),
    ([0x6F], .ld_L_A)] = true := by decide

theorem test_decode_70 : decodesTo [
    ([0x70], .ld_atHL_B), ([0x71], .ld_atHL_C), ([0x72], .ld_atHL_D), ([0x73], .ld_atHL_E), ([0x74], .ld_atHL_H),
    ([0x75], .ld_atHL_L), ([0x76], .halt), ([0x77], .ld_atHL_A), ([0x78], .ld_A_B), ([0x79], .ld_A_C),
    ([0x7A], .ld_A_D), ([0x7B], .ld_A_E), ([0x7C], .ld_A_H), ([0x7D], .ld_A_L), ([0x7E], .ld_A_atHL),
    ([0x7F], .ld_A_A)] = true := by decide

theorem test_decode_80 : decodesTo [
    ([0x80], .add_A_B), ([0x81], .add_A_C), ([0x82], .add_A_D), ([0x83], .add_A_E), ([0x84], .add_A_H),
    ([0x85], .add_A_L), ([0x86], .add_A_atHL), ([0x87], .add_A_A), ([0x88], .adc_A_B), ([0x89], .adc_A_C),
    ([0x8A], .adc_A_D), ([0x8B], .adc_A_E), ([0x8C], .adc_A_H), ([0x8D], .adc_A_L), ([0x8E], .adc_A_atHL),
    ([0x8F], .adc_A_A)] = true := by decide

theorem test_decode_90 : decodesTo [
    ([0x90], .sub_B), ([0x91], .sub_C), ([0x92], .sub_D), ([0x93], .sub_E), ([0x94], .sub_H), ([0x95], .sub_L),
    ([0x96], .sub_atHL), ([0x97], .sub_A), ([0x98], .sbc_A_B), ([0x99], .sbc_A_C), ([0x9A], .sbc_A_D),
    ([0x9B], .sbc_A_E), ([0x9C], .sbc_A_H), ([0x9D], .sbc_A_L), ([0x9E], .sbc_A_atHL), ([0x9F], .sbc_A_A)] = true := by decide

theorem test_decode_A0 : decodesTo [
    ([0xA0], .and_B), ([0xA1], .and_C), ([0xA2], .and_D), ([0xA3], .and_E), ([0xA4], .and_H), ([0xA5], .and_L),
    ([0xA6], .and_atHL), ([0xA7], .and_A), ([0xA8], .xor_B), ([0xA9], .xor_C), ([0xAA], .xor_D), ([0xAB], .xor_E),
    ([0xAC], .xor_H), ([0xAD], .xor_L), ([0xAE], .xor_atHL), ([0xAF], .xor_A)] = true := by decide

theorem test_decode_B0 : decodesTo [
    ([0xB0], .or_B), ([0xB1], .or_C), ([0xB2], .or_D), ([0xB3], .or_E), ([0xB4], .or_H), ([0xB5], .or_L),
    ([0xB6], .or_atHL), ([0xB7], .or_A), ([0xB8], .cp_B), ([0xB9], .cp_C), ([0xBA], .cp_D), ([0xBB], .cp_E),
    ([0xBC], .cp_H), ([0xBD], .cp_L), ([0xBE], .cp_atHL), ([0xBF], .cp_A)] = true := by decide

theorem test_decode_C0 : decodesTo [
    ([0xC0], .ret_NZ), ([0xC1], .pop_BC), ([0xC2, 0xA5, 0xC3], .jp_NZ_nn 0xC3A5),
    ([0xC3, 0xA5, 0xC3], .jp_nn 0xC3A5), ([0xC4, 0xA5, 0xC3], .call_NZ_nn 0xC3A5), ([0xC5], .push_BC),
    ([0xC6, 0x5A], .add_A_n 0x5A), ([0xC7], .rst_00), ([0xC8], .ret_Z), ([0xC9], .ret),
    ([0xCA, 0xA5, 0xC3], .jp_Z_nn 0xC3A5), ([0xCC, 0xA5, 0xC3], .call_Z_nn 0xC3A5),
    ([0xCD, 0xA5, 0xC3], .call_nn 0xC3A5), ([0xCE, 0x5A], .adc_A_n 0x5A), ([0xCF], .rst_08)] = true := by decide

theorem test_decode_D0 : decodesTo [
    ([0xD0], .ret_NC), ([0xD1], .pop_DE), ([0xD2, 0xA5, 0xC3], .jp_NC_nn 0xC3A5), ([0xD3], .illegal_D3),
    ([0xD4, 0xA5, 0xC3], .call_NC_nn 0xC3A5), ([0xD5], .push_DE), ([0xD6, 0x5A], .sub_n 0x5A), ([0xD7], .rst_10),
    ([0xD8], .ret_C), ([0xD9], .reti), ([0xDA, 0xA5, 0xC3], .jp_C_nn 0xC3A5), ([0xDB], .illegal_DB),
    ([0xDC, 0xA5, 0xC3], .call_C_nn 0xC3A5), ([0xDD], .illegal_DD), ([0xDE, 0x5A], .sbc_A_n 0x5A),
    ([0xDF], .rst_18)] = true := by decide

theorem test_decode_E0 : decodesTo [
    ([0xE0, 0x5A], .ldh_atn_A 0x5A), ([0xE1], .pop_HL), ([0xE2], .ld_atC_A), ([0xE3], .illegal_E3),
    ([0xE4], .illegal_E4), ([0xE5], .push_HL), ([0xE6, 0x5A], .and_n 0x5A), ([0xE7], .rst_20),
    ([0xE8, 0x5A], .add_SP_e 0x5A), ([0xE9], .jp_HL), ([0xEA, 0xA5, 0xC3], .ld_atnn_A 0xC3A5),
    ([0xEB], .illegal_EB), ([0xEC], .illegal_EC), ([0xED], .illegal_ED), ([0xEE, 0x5A], .xor_n 0x5A),
    ([0xEF], .rst_28)] = true := by decide

theorem test_decode_F0 : decodesTo [
    ([0xF0, 0x5A], .ldh_A_atn 0x5A), ([0xF1], .pop_AF), ([0xF2], .ld_A_atC), ([0xF3], .di), ([0xF4], .illegal_F4),
    ([0xF5], .push_AF), ([0xF6, 0x5A], .or_n 0x5A), ([0xF7], .rst_30), ([0xF8, 0x5A], .ld_HL_SP_e 0x5A),
    ([0xF9], .ld_SP_HL), ([0xFA, 0xA5, 0xC3], .ld_A_atnn 0xC3A5), ([0xFB], .ei), ([0xFC], .illegal_FC),
    ([0xFD], .illegal_FD), ([0xFE, 0x5A], .cp_n 0x5A), ([0xFF], .rst_38)] = true := by decide

theorem test_decode_cb_00 : decodesTo [
    ([0xCB, 0x00], .rlc_B), ([0xCB, 0x01], .rlc_C), ([0xCB, 0x02], .rlc_D), ([0xCB, 0x03], .rlc_E),
    ([0xCB, 0x04], .rlc_H), ([0xCB, 0x05], .rlc_L), ([0xCB, 0x06], .rlc_atHL), ([0xCB, 0x07], .rlc_A),
    ([0xCB, 0x08], .rrc_B), ([0xCB, 0x09], .rrc_C), ([0xCB, 0x0A], .rrc_D), ([0xCB, 0x0B], .rrc_E),
    ([0xCB, 0x0C], .rrc_H), ([0xCB, 0x0D], .rrc_L), ([0xCB, 0x0E], .rrc_atHL), ([0xCB, 0x0F], .rrc_A)] = true := by decide

theorem test_decode_cb_10 : decodesTo [
    ([0xCB, 0x10], .rl_B), ([0xCB, 0x11], .rl_C), ([0xCB, 0x12], .rl_D), ([0xCB, 0x13], .rl_E),
    ([0xCB, 0x14], .rl_H), ([0xCB, 0x15], .rl_L), ([0xCB, 0x16], .rl_atHL), ([0xCB, 0x17], .rl_A),
    ([0xCB, 0x18], .rr_B), ([0xCB, 0x19], .rr_C), ([0xCB, 0x1A], .rr_D), ([0xCB, 0x1B], .rr_E),
    ([0xCB, 0x1C], .rr_H), ([0xCB, 0x1D], .rr_L), ([0xCB, 0x1E], .rr_atHL), ([0xCB, 0x1F], .rr_A)] = true := by decide

theorem test_decode_cb_20 : decodesTo [
    ([0xCB, 0x20], .sla_B), ([0xCB, 0x21], .sla_C), ([0xCB, 0x22], .sla_D), ([0xCB, 0x23], .sla_E),
    ([0xCB, 0x24], .sla_H), ([0xCB, 0x25], .sla_L), ([0xCB, 0x26], .sla_atHL), ([0xCB, 0x27], .sla_A),
    ([0xCB, 0x28], .sra_B), ([0xCB, 0x29], .sra_C), ([0xCB, 0x2A], .sra_D), ([0xCB, 0x2B], .sra_E),
    ([0xCB, 0x2C], .sra_H), ([0xCB, 0x2D], .sra_L), ([0xCB, 0x2E], .sra_atHL), ([0xCB, 0x2F], .sra_A)] = true := by decide

theorem test_decode_cb_30 : decodesTo [
    ([0xCB, 0x30], .swap_B), ([0xCB, 0x31], .swap_C), ([0xCB, 0x32], .swap_D), ([0xCB, 0x33], .swap_E),
    ([0xCB, 0x34], .swap_H), ([0xCB, 0x35], .swap_L), ([0xCB, 0x36], .swap_atHL), ([0xCB, 0x37], .swap_A),
    ([0xCB, 0x38], .srl_B), ([0xCB, 0x39], .srl_C), ([0xCB, 0x3A], .srl_D), ([0xCB, 0x3B], .srl_E),
    ([0xCB, 0x3C], .srl_H), ([0xCB, 0x3D], .srl_L), ([0xCB, 0x3E], .srl_atHL), ([0xCB, 0x3F], .srl_A)] = true := by decide

theorem test_decode_cb_40 : decodesTo [
    ([0xCB, 0x40], .bit_0_B), ([0xCB, 0x41], .bit_0_C), ([0xCB, 0x42], .bit_0_D), ([0xCB, 0x43], .bit_0_E),
    ([0xCB, 0x44], .bit_0_H), ([0xCB, 0x45], .bit_0_L), ([0xCB, 0x46], .bit_0_atHL), ([0xCB, 0x47], .bit_0_A),
    ([0xCB, 0x48], .bit_1_B), ([0xCB, 0x49], .bit_1_C), ([0xCB, 0x4A], .bit_1_D), ([0xCB, 0x4B], .bit_1_E),
    ([0xCB, 0x4C], .bit_1_H), ([0xCB, 0x4D], .bit_1_L), ([0xCB, 0x4E], .bit_1_atHL), ([0xCB, 0x4F], .bit_1_A)] = true := by decide

theorem test_decode_cb_50 : decodesTo [
    ([0xCB, 0x50], .bit_2_B), ([0xCB, 0x51], .bit_2_C), ([0xCB, 0x52], .bit_2_D), ([0xCB, 0x53], .bit_2_E),
    ([0xCB, 0x54], .bit_2_H), ([0xCB, 0x55], .bit_2_L), ([0xCB, 0x56], .bit_2_atHL), ([0xCB, 0x57], .bit_2_A),
    ([0xCB, 0x58], .bit_3_B), ([0xCB, 0x59], .bit_3_C), ([0xCB, 0x5A], .bit_3_D), ([0xCB, 0x5B], .bit_3_E),
    ([0xCB, 0x5C], .bit_3_H), ([0xCB, 0x5D], .bit_3_L), ([0xCB, 0x5E], .bit_3_atHL), ([0xCB, 0x5F], .bit_3_A)] = true := by decide

theorem test_decode_cb_60 : decodesTo [
    ([0xCB, 0x60], .bit_4_B), ([0xCB, 0x61], .bit_4_C), ([0xCB, 0x62], .bit_4_D), ([0xCB, 0x63], .bit_4_E),
    ([0xCB, 0x64], .bit_4_H), ([0xCB, 0x65], .bit_4_L), ([0xCB, 0x66], .bit_4_atHL), ([0xCB, 0x67], .bit_4_A),
    ([0xCB, 0x68], .bit_5_B), ([0xCB, 0x69], .bit_5_C), ([0xCB, 0x6A], .bit_5_D), ([0xCB, 0x6B], .bit_5_E),
    ([0xCB, 0x6C], .bit_5_H), ([0xCB, 0x6D], .bit_5_L), ([0xCB, 0x6E], .bit_5_atHL), ([0xCB, 0x6F], .bit_5_A)] = true := by decide

theorem test_decode_cb_70 : decodesTo [
    ([0xCB, 0x70], .bit_6_B), ([0xCB, 0x71], .bit_6_C), ([0xCB, 0x72], .bit_6_D), ([0xCB, 0x73], .bit_6_E),
    ([0xCB, 0x74], .bit_6_H), ([0xCB, 0x75], .bit_6_L), ([0xCB, 0x76], .bit_6_atHL), ([0xCB, 0x77], .bit_6_A),
    ([0xCB, 0x78], .bit_7_B), ([0xCB, 0x79], .bit_7_C), ([0xCB, 0x7A], .bit_7_D), ([0xCB, 0x7B], .bit_7_E),
    ([0xCB, 0x7C], .bit_7_H), ([0xCB, 0x7D], .bit_7_L), ([0xCB, 0x7E], .bit_7_atHL), ([0xCB, 0x7F], .bit_7_A)] = true := by decide

theorem test_decode_cb_80 : decodesTo [
    ([0xCB, 0x80], .res_0_B), ([0xCB, 0x81], .res_0_C), ([0xCB, 0x82], .res_0_D), ([0xCB, 0x83], .res_0_E),
    ([0xCB, 0x84], .res_0_H), ([0xCB, 0x85], .res_0_L), ([0xCB, 0x86], .res_0_atHL), ([0xCB, 0x87], .res_0_A),
    ([0xCB, 0x88], .res_1_B), ([0xCB, 0x89], .res_1_C), ([0xCB, 0x8A], .res_1_D), ([0xCB, 0x8B], .res_1_E),
    ([0xCB, 0x8C], .res_1_H), ([0xCB, 0x8D], .res_1_L), ([0xCB, 0x8E], .res_1_atHL), ([0xCB, 0x8F], .res_1_A)] = true := by decide

theorem test_decode_cb_90 : decodesTo [
    ([0xCB, 0x90], .res_2_B), ([0xCB, 0x91], .res_2_C), ([0xCB, 0x92], .res_2_D), ([0xCB, 0x93], .res_2_E),
    ([0xCB, 0x94], .res_2_H), ([0xCB, 0x95], .res_2_L), ([0xCB, 0x96], .res_2_atHL), ([0xCB, 0x97], .res_2_A),
    ([0xCB, 0x98], .res_3_B), ([0xCB, 0x99], .res_3_C), ([0xCB, 0x9A], .res_3_D), ([0xCB, 0x9B], .res_3_E),
    ([0xCB, 0x9C], .res_3_H), ([0xCB, 0x9D], .res_3_L), ([0xCB, 0x9E], .res_3_atHL), ([0xCB, 0x9F], .res_3_A)] = true := by decide

theorem test_decode_cb_A0 : decodesTo [
    ([0xCB, 0xA0], .res_4_B), ([0xCB, 0xA1], .res_4_C), ([0xCB, 0xA2], .res_4_D), ([0xCB, 0xA3], .res_4_E),
    ([0xCB, 0xA4], .res_4_H), ([0xCB, 0xA5], .res_4_L), ([0xCB, 0xA6], .res_4_atHL), ([0xCB, 0xA7], .res_4_A),
    ([0xCB, 0xA8], .res_5_B), ([0xCB, 0xA9], .res_5_C), ([0xCB, 0xAA], .res_5_D), ([0xCB, 0xAB], .res_5_E),
    ([0xCB, 0xAC], .res_5_H), ([0xCB, 0xAD], .res_5_L), ([0xCB, 0xAE], .res_5_atHL), ([0xCB, 0xAF], .res_5_A)] = true := by decide

theorem test_decode_cb_B0 : decodesTo [
    ([0xCB, 0xB0], .res_6_B), ([0xCB, 0xB1], .res_6_C), ([0xCB, 0xB2], .res_6_D), ([0xCB, 0xB3], .res_6_E),
    ([0xCB, 0xB4], .res_6_H), ([0xCB, 0xB5], .res_6_L), ([0xCB, 0xB6], .res_6_atHL), ([0xCB, 0xB7], .res_6_A),
    ([0xCB, 0xB8], .res_7_B), ([0xCB, 0xB9], .res_7_C), ([0xCB, 0xBA], .res_7_D), ([0xCB, 0xBB], .res_7_E),
    ([0xCB, 0xBC], .res_7_H), ([0xCB, 0xBD], .res_7_L), ([0xCB, 0xBE], .res_7_atHL), ([0xCB, 0xBF], .res_7_A)] = true := by decide

theorem test_decode_cb_C0 : decodesTo [
    ([0xCB, 0xC0], .set_0_B), ([0xCB, 0xC1], .set_0_C), ([0xCB, 0xC2], .set_0_D), ([0xCB, 0xC3], .set_0_E),
    ([0xCB, 0xC4], .set_0_H), ([0xCB, 0xC5], .set_0_L), ([0xCB, 0xC6], .set_0_atHL), ([0xCB, 0xC7], .set_0_A),
    ([0xCB, 0xC8], .set_1_B), ([0xCB, 0xC9], .set_1_C), ([0xCB, 0xCA], .set_1_D), ([0xCB, 0xCB], .set_1_E),
    ([0xCB, 0xCC], .set_1_H), ([0xCB, 0xCD], .set_1_L), ([0xCB, 0xCE], .set_1_atHL), ([0xCB, 0xCF], .set_1_A)] = true := by decide

theorem test_decode_cb_D0 : decodesTo [
    ([0xCB, 0xD0], .set_2_B), ([0xCB, 0xD1], .set_2_C), ([0xCB, 0xD2], .set_2_D), ([0xCB, 0xD3], .set_2_E),
    ([0xCB, 0xD4], .set_2_H), ([0xCB, 0xD5], .set_2_L), ([0xCB, 0xD6], .set_2_atHL), ([0xCB, 0xD7], .set_2_A),
    ([0xCB, 0xD8], .set_3_B), ([0xCB, 0xD9], .set_3_C), ([0xCB, 0xDA], .set_3_D), ([0xCB, 0xDB], .set_3_E),
    ([0xCB, 0xDC], .set_3_H), ([0xCB, 0xDD], .set_3_L), ([0xCB, 0xDE], .set_3_atHL), ([0xCB, 0xDF], .set_3_A)] = true := by decide

theorem test_decode_cb_E0 : decodesTo [
    ([0xCB, 0xE0], .set_4_B), ([0xCB, 0xE1], .set_4_C), ([0xCB, 0xE2], .set_4_D), ([0xCB, 0xE3], .set_4_E),
    ([0xCB, 0xE4], .set_4_H), ([0xCB, 0xE5], .set_4_L), ([0xCB, 0xE6], .set_4_atHL), ([0xCB, 0xE7], .set_4_A),
    ([0xCB, 0xE8], .set_5_B), ([0xCB, 0xE9], .set_5_C), ([0xCB, 0xEA], .set_5_D), ([0xCB, 0xEB], .set_5_E),
    ([0xCB, 0xEC], .set_5_H), ([0xCB, 0xED], .set_5_L), ([0xCB, 0xEE], .set_5_atHL), ([0xCB, 0xEF], .set_5_A)] = true := by decide

theorem test_decode_cb_F0 : decodesTo [
    ([0xCB, 0xF0], .set_6_B), ([0xCB, 0xF1], .set_6_C), ([0xCB, 0xF2], .set_6_D), ([0xCB, 0xF3], .set_6_E),
    ([0xCB, 0xF4], .set_6_H), ([0xCB, 0xF5], .set_6_L), ([0xCB, 0xF6], .set_6_atHL), ([0xCB, 0xF7], .set_6_A),
    ([0xCB, 0xF8], .set_7_B), ([0xCB, 0xF9], .set_7_C), ([0xCB, 0xFA], .set_7_D), ([0xCB, 0xFB], .set_7_E),
    ([0xCB, 0xFC], .set_7_H), ([0xCB, 0xFD], .set_7_L), ([0xCB, 0xFE], .set_7_atHL), ([0xCB, 0xFF], .set_7_A)] = true := by decide

/-- A string that ends inside an instruction does not decode. -/
theorem test_decode_truncated :
    decode [] = .error .noByte ∧ decode [0xCB] = .error (.truncated 0xCB) ∧
    decode [0xC3, 0x50] = .error (.truncated 0xC3) := by
  exact ⟨rfl, rfl, rfl⟩

/-- The word form of the opcode table: an operand in the later bits, the prefix in the high byte of an extended row. -/
theorem test_table_words :
    decodeTableWord 24 0x0150C3 = some (.jp_nn 0x0150) ∧ decodeTableWord 8 0x3E = some (.ld_A_n 0) ∧
    decodeTableWord 16 0xCB7F = some .bit_7_A := by
  decide

/-! ## One step

The base state of spec/95_test_vectors.md part 2: registers zero but `SP = DFF0` and `PC = C000`, no interrupt enabled or
requested, devices as after reset, a ROM-only cartridge. -/

def zeroRegs : Regs := { a := 0, f := 0, b := 0, c := 0, d := 0, e := 0, h := 0, l := 0, sp := 0xDFF0, pc := 0xC000 }

def noIrq : Irq := { ie := 0, flag := 0, ime := false, imePending := false }

/-- The base state with registers, interrupt state and stored bytes. -/
def at' (r : Regs) (q : Irq) (bytes : List (Word × Byte)) : State :=
  bytes.foldl (fun t c => t.write8 c.1 c.2) { State.reset with regs := r, irq := q }

/-- What a step leaves: registers, outputs, interrupt state, and the bytes at some addresses. -/
def after (addrs : List Word) (s : State) : Option (Regs × List Output × Irq × List Byte) :=
  match step s with
  | .next t => some (t.regs, t.outputs, t.irq, addrs.map (t.read8 (.data 0)))
  | .fault _ | .refused _ => none

/-! ### 8-bit loads (95_test_vectors.md part 2.1) -/

/-- LD B,C. -/
theorem test_ld_B_C : after []
    (at' { zeroRegs with c := 0x5A } noIrq [(0xC000, 0x41)])
    = some ({ zeroRegs with b := 0x5A, c := 0x5A, pc := 0xC001 }, [.audioAdvance 4], noIrq, []) := by decide

/-- LD D,n. -/
theorem test_ld_D_n : after []
    (at' zeroRegs noIrq [(0xC000, 0x16), (0xC001, 0x9C)])
    = some ({ zeroRegs with d := 0x9C, pc := 0xC002 }, [.audioAdvance 8], noIrq, []) := by decide

/-- LD E,(HL). -/
theorem test_ld_E_atHL : after []
    (at' { zeroRegs with h := 0xC1 } noIrq [(0xC000, 0x5E), (0xC100, 0x77)])
    = some ({ zeroRegs with e := 0x77, h := 0xC1, pc := 0xC001 }, [.audioAdvance 8], noIrq, []) := by decide

/-- LD (HL),B. -/
theorem test_ld_atHL_B : after [0xC100]
    (at' { zeroRegs with b := 0x42, h := 0xC1 } noIrq [(0xC000, 0x70)])
    = some ({ zeroRegs with b := 0x42, h := 0xC1, pc := 0xC001 }, [.audioAdvance 8], noIrq, [0x42]) := by decide

/-- LD (HL),n. -/
theorem test_ld_atHL_n : after [0xC100]
    (at' { zeroRegs with h := 0xC1 } noIrq [(0xC000, 0x36), (0xC001, 0xEE)])
    = some ({ zeroRegs with h := 0xC1, pc := 0xC002 }, [.audioAdvance 12], noIrq, [0xEE]) := by decide

/-- LD (HL),n into ROM (dropped). -/
theorem test_ld_atHL_n_2 : after []
    (at' { zeroRegs with h := 0x40 } noIrq [(0xC000, 0x36), (0xC001, 0xEE)])
    = some ({ zeroRegs with h := 0x40, pc := 0xC002 }, [.audioAdvance 12], noIrq, []) := by decide

/-- LD A,(BC). -/
theorem test_ld_A_atBC : after []
    (at' { zeroRegs with b := 0xC1 } noIrq [(0xC000, 0x0A), (0xC100, 0x12)])
    = some ({ zeroRegs with a := 0x12, b := 0xC1, pc := 0xC001 }, [.audioAdvance 8], noIrq, []) := by decide

/-- LD A,(DE). -/
theorem test_ld_A_atDE : after []
    (at' { zeroRegs with d := 0xC1, e := 0x01 } noIrq [(0xC000, 0x1A), (0xC101, 0x34)])
    = some ({ zeroRegs with a := 0x34, d := 0xC1, e := 0x01, pc := 0xC001 },
      [.audioAdvance 8], noIrq, []) := by decide

/-- LD (BC),A. -/
theorem test_ld_atBC_A : after [0xC100]
    (at' { zeroRegs with a := 0x9A, b := 0xC1 } noIrq [(0xC000, 0x02)])
    = some ({ zeroRegs with a := 0x9A, b := 0xC1, pc := 0xC001 }, [.audioAdvance 8], noIrq, [0x9A]) := by decide

/-- LD (DE),A. -/
theorem test_ld_atDE_A : after [0xC100]
    (at' { zeroRegs with a := 0x9B, d := 0xC1 } noIrq [(0xC000, 0x12)])
    = some ({ zeroRegs with a := 0x9B, d := 0xC1, pc := 0xC001 }, [.audioAdvance 8], noIrq, [0x9B]) := by decide

/-- LD A,(nn). -/
theorem test_ld_A_atnn : after []
    (at' zeroRegs noIrq [(0xC000, 0xFA), (0xC001, 0x00), (0xC002, 0xC1), (0xC100, 0x56)])
    = some ({ zeroRegs with a := 0x56, pc := 0xC003 }, [.audioAdvance 16], noIrq, []) := by decide

/-- LD (nn),A. -/
theorem test_ld_atnn_A : after [0xC100]
    (at' { zeroRegs with a := 0x65 } noIrq [(0xC000, 0xEA), (0xC001, 0x00), (0xC002, 0xC1)])
    = some ({ zeroRegs with a := 0x65, pc := 0xC003 }, [.audioAdvance 16], noIrq, [0x65]) := by decide

/-- LD A,(nn) unusable FEA0. -/
theorem test_ld_A_atnn_2 : after []
    (at' { zeroRegs with a := 0x99 } noIrq [(0xC000, 0xFA), (0xC001, 0xA0), (0xC002, 0xFE)])
    = some ({ zeroRegs with pc := 0xC003 }, [.audioAdvance 16], noIrq, []) := by decide

/-- LDH (n),A HRAM. -/
theorem test_ldh_atn_A : after [0xFF80]
    (at' { zeroRegs with a := 0x3C } noIrq [(0xC000, 0xE0), (0xC001, 0x80)])
    = some ({ zeroRegs with a := 0x3C, pc := 0xC002 }, [.audioAdvance 12], noIrq, [0x3C]) := by decide

/-- LDH A,(n) HRAM. -/
theorem test_ldh_A_atn : after []
    (at' zeroRegs noIrq [(0xC000, 0xF0), (0xC001, 0x80), (0xFF80, 0x3D)])
    = some ({ zeroRegs with a := 0x3D, pc := 0xC002 }, [.audioAdvance 12], noIrq, []) := by decide

/-- LDH (C),A. -/
theorem test_ld_atC_A : after [0xFF81]
    (at' { zeroRegs with a := 0x3E, c := 0x81 } noIrq [(0xC000, 0xE2)])
    = some ({ zeroRegs with a := 0x3E, c := 0x81, pc := 0xC001 }, [.audioAdvance 8], noIrq, [0x3E]) := by decide

/-- LDH A,(C). -/
theorem test_ld_A_atC : after []
    (at' { zeroRegs with c := 0x81 } noIrq [(0xC000, 0xF2), (0xFF81, 0x3F)])
    = some ({ zeroRegs with a := 0x3F, c := 0x81, pc := 0xC001 }, [.audioAdvance 8], noIrq, []) := by decide

/-- LDH A,(n) IF idle bits. -/
theorem test_ldh_A_atn_2 : after []
    (at' zeroRegs { noIrq with flag := 0x05 } [(0xC000, 0xF0), (0xC001, 0x0F)])
    = some ({ zeroRegs with a := 0xE5, pc := 0xC002 },
      [.audioAdvance 12], { noIrq with flag := 0x05 }, []) := by decide

/-- LD (HL+),A. -/
theorem test_ld_atHLinc_A : after [0xC1FF]
    (at' { zeroRegs with a := 0x11, h := 0xC1, l := 0xFF } noIrq [(0xC000, 0x22)])
    = some ({ zeroRegs with a := 0x11, h := 0xC2, pc := 0xC001 }, [.audioAdvance 8], noIrq, [0x11]) := by decide

/-- LD (HL+),A at FFFF. -/
theorem test_ld_atHLinc_A_2 : after []
    (at' { zeroRegs with a := 0xFF, h := 0xFF, l := 0xFF } noIrq [(0xC000, 0x22)])
    = some ({ zeroRegs with a := 0xFF, pc := 0xC001 }, [.audioAdvance 8], { noIrq with ie := 0x1F }, []) := by decide

/-- LD A,(HL+). -/
theorem test_ld_A_atHLinc : after []
    (at' { zeroRegs with h := 0xC1 } noIrq [(0xC000, 0x2A), (0xC100, 0x21)])
    = some ({ zeroRegs with a := 0x21, h := 0xC1, l := 0x01, pc := 0xC001 },
      [.audioAdvance 8], noIrq, []) := by decide

/-- LD (HL-),A. -/
theorem test_ld_atHLdec_A : after [0xC100]
    (at' { zeroRegs with a := 0x22, h := 0xC1 } noIrq [(0xC000, 0x32)])
    = some ({ zeroRegs with a := 0x22, h := 0xC0, l := 0xFF, pc := 0xC001 },
      [.audioAdvance 8], noIrq, [0x22]) := by decide

/-! ### 16-bit loads and the stack (95_test_vectors.md part 2.2) -/

/-- LD BC,nn. -/
theorem test_ld_BC_nn : after []
    (at' zeroRegs noIrq [(0xC000, 0x01), (0xC001, 0x34), (0xC002, 0x12)])
    = some ({ zeroRegs with b := 0x12, c := 0x34, pc := 0xC003 }, [.audioAdvance 12], noIrq, []) := by decide

/-- LD SP,nn. -/
theorem test_ld_SP_nn : after []
    (at' zeroRegs noIrq [(0xC000, 0x31), (0xC001, 0xFE), (0xC002, 0xFF)])
    = some ({ zeroRegs with sp := 0xFFFE, pc := 0xC003 }, [.audioAdvance 12], noIrq, []) := by decide

/-- LD SP,HL. -/
theorem test_ld_SP_HL : after []
    (at' { zeroRegs with h := 0xC2, l := 0x34 } noIrq [(0xC000, 0xF9)])
    = some ({ zeroRegs with h := 0xC2, l := 0x34, sp := 0xC234, pc := 0xC001 },
      [.audioAdvance 8], noIrq, []) := by decide

/-- LD (nn),SP. -/
theorem test_ld_atnn_SP : after [0xC100, 0xC101]
    (at' { zeroRegs with sp := 0xBEEF } noIrq [(0xC000, 0x08), (0xC001, 0x00), (0xC002, 0xC1)])
    = some ({ zeroRegs with sp := 0xBEEF, pc := 0xC003 }, [.audioAdvance 20], noIrq, [0xEF, 0xBE]) := by decide

/-- PUSH BC. -/
theorem test_push_BC : after [0xDFEE, 0xDFEF]
    (at' { zeroRegs with b := 0x12, c := 0x34 } noIrq [(0xC000, 0xC5)])
    = some ({ zeroRegs with b := 0x12, c := 0x34, sp := 0xDFEE, pc := 0xC001 },
      [.audioAdvance 16], noIrq, [0x34, 0x12]) := by decide

/-- PUSH AF. -/
theorem test_push_AF : after [0xDFEE, 0xDFEF]
    (at' { zeroRegs with a := 0x12, f := 0xB0 } noIrq [(0xC000, 0xF5)])
    = some ({ zeroRegs with a := 0x12, f := 0xB0, sp := 0xDFEE, pc := 0xC001 },
      [.audioAdvance 16], noIrq, [0xB0, 0x12]) := by decide

/-- PUSH DE, SP=0001 (wraps; byte to 0000 dropped). -/
theorem test_push_DE : after []
    (at' { zeroRegs with d := 0xAB, e := 0xFF, sp := 0x0001 } noIrq [(0xC000, 0xD5)])
    = some ({ zeroRegs with d := 0xAB, e := 0xFF, sp := 0xFFFF, pc := 0xC001 },
      [.audioAdvance 16], { noIrq with ie := 0x1F }, []) := by decide

/-- POP DE. -/
theorem test_pop_DE : after []
    (at' { zeroRegs with sp := 0xC100 } noIrq [(0xC000, 0xD1), (0xC100, 0x78), (0xC101, 0x56)])
    = some ({ zeroRegs with d := 0x56, e := 0x78, sp := 0xC102, pc := 0xC001 },
      [.audioAdvance 12], noIrq, []) := by decide

/-- POP AF masks low nibble. -/
theorem test_pop_AF : after []
    (at' { zeroRegs with sp := 0xC100 } noIrq [(0xC000, 0xF1), (0xC100, 0xFF), (0xC101, 0x12)])
    = some ({ zeroRegs with a := 0x12, f := 0xF0, sp := 0xC102, pc := 0xC001 },
      [.audioAdvance 12], noIrq, []) := by decide

/-! ### 8-bit arithmetic and logic (95_test_vectors.md part 2.3) -/

/-- ADD A,B 0F+01. -/
theorem test_add_A_B : after []
    (at' { zeroRegs with a := 0x0F, b := 0x01 } noIrq [(0xC000, 0x80)])
    = some ({ zeroRegs with a := 0x10, f := 0x20, b := 0x01, pc := 0xC001 },
      [.audioAdvance 4], noIrq, []) := by decide

/-- ADD A,n F0+10. -/
theorem test_add_A_n : after []
    (at' { zeroRegs with a := 0xF0 } noIrq [(0xC000, 0xC6), (0xC001, 0x10)])
    = some ({ zeroRegs with f := 0x90, pc := 0xC002 }, [.audioAdvance 8], noIrq, []) := by decide

/-- ADD A,A 80+80. -/
theorem test_add_A_A : after []
    (at' { zeroRegs with a := 0x80 } noIrq [(0xC000, 0x87)])
    = some ({ zeroRegs with f := 0x90, pc := 0xC001 }, [.audioAdvance 4], noIrq, []) := by decide

/-- ADD A,(HL). -/
theorem test_add_A_atHL : after []
    (at' { zeroRegs with a := 0x3A, h := 0xC1 } noIrq [(0xC000, 0x86), (0xC100, 0xC6)])
    = some ({ zeroRegs with f := 0xB0, h := 0xC1, pc := 0xC001 }, [.audioAdvance 8], noIrq, []) := by decide

/-- ADC A,n FF+FF+C. -/
theorem test_adc_A_n : after []
    (at' { zeroRegs with a := 0xFF, f := 0x10 } noIrq [(0xC000, 0xCE), (0xC001, 0xFF)])
    = some ({ zeroRegs with a := 0xFF, f := 0x30, pc := 0xC002 }, [.audioAdvance 8], noIrq, []) := by decide

/-- SUB B 10-01. -/
theorem test_sub_B : after []
    (at' { zeroRegs with a := 0x10, b := 0x01 } noIrq [(0xC000, 0x90)])
    = some ({ zeroRegs with a := 0x0F, f := 0x60, b := 0x01, pc := 0xC001 },
      [.audioAdvance 4], noIrq, []) := by decide

/-- SUB A. -/
theorem test_sub_A : after []
    (at' { zeroRegs with a := 0x5C, f := 0x10 } noIrq [(0xC000, 0x97)])
    = some ({ zeroRegs with f := 0xC0, pc := 0xC001 }, [.audioAdvance 4], noIrq, []) := by decide

/-- SBC A,n 00-FF-C. -/
theorem test_sbc_A_n : after []
    (at' { zeroRegs with f := 0x10 } noIrq [(0xC000, 0xDE), (0xC001, 0xFF)])
    = some ({ zeroRegs with f := 0xF0, pc := 0xC002 }, [.audioAdvance 8], noIrq, []) := by decide

/-- SBC A,n 10-0F-C. -/
theorem test_sbc_A_n_2 : after []
    (at' { zeroRegs with a := 0x10, f := 0x10 } noIrq [(0xC000, 0xDE), (0xC001, 0x0F)])
    = some ({ zeroRegs with f := 0xE0, pc := 0xC002 }, [.audioAdvance 8], noIrq, []) := by decide

/-- AND B -> 0. -/
theorem test_and_B : after []
    (at' { zeroRegs with a := 0xF0, f := 0x10, b := 0x0F } noIrq [(0xC000, 0xA0)])
    = some ({ zeroRegs with f := 0xA0, b := 0x0F, pc := 0xC001 }, [.audioAdvance 4], noIrq, []) := by decide

/-- XOR A. -/
theorem test_xor_A : after []
    (at' { zeroRegs with a := 0x77, f := 0xF0 } noIrq [(0xC000, 0xAF)])
    = some ({ zeroRegs with f := 0x80, pc := 0xC001 }, [.audioAdvance 4], noIrq, []) := by decide

/-- OR C. -/
theorem test_or_C : after []
    (at' { zeroRegs with a := 0x50, f := 0xF0, c := 0x05 } noIrq [(0xC000, 0xB1)])
    = some ({ zeroRegs with a := 0x55, c := 0x05, pc := 0xC001 }, [.audioAdvance 4], noIrq, []) := by decide

/-- CP n less. -/
theorem test_cp_n : after []
    (at' { zeroRegs with a := 0x42 } noIrq [(0xC000, 0xFE), (0xC001, 0x43)])
    = some ({ zeroRegs with a := 0x42, f := 0x70, pc := 0xC002 }, [.audioAdvance 8], noIrq, []) := by decide

/-- CP (HL) greater. -/
theorem test_cp_atHL : after []
    (at' { zeroRegs with a := 0x42, h := 0xC1 } noIrq [(0xC000, 0xBE), (0xC100, 0x03)])
    = some ({ zeroRegs with a := 0x42, f := 0x60, h := 0xC1, pc := 0xC001 },
      [.audioAdvance 8], noIrq, []) := by decide

/-- INC A FF (C kept). -/
theorem test_inc_A : after []
    (at' { zeroRegs with a := 0xFF, f := 0x10 } noIrq [(0xC000, 0x3C)])
    = some ({ zeroRegs with f := 0xB0, pc := 0xC001 }, [.audioAdvance 4], noIrq, []) := by decide

/-- INC (HL). -/
theorem test_inc_atHL : after [0xC100]
    (at' { zeroRegs with h := 0xC1 } noIrq [(0xC000, 0x34), (0xC100, 0x7F)])
    = some ({ zeroRegs with f := 0x20, h := 0xC1, pc := 0xC001 }, [.audioAdvance 12], noIrq, [0x80]) := by decide

/-- DEC B 01. -/
theorem test_dec_B : after []
    (at' { zeroRegs with b := 0x01 } noIrq [(0xC000, 0x05)])
    = some ({ zeroRegs with f := 0xC0, pc := 0xC001 }, [.audioAdvance 4], noIrq, []) := by decide

/-- DEC D 10. -/
theorem test_dec_D : after []
    (at' { zeroRegs with d := 0x10 } noIrq [(0xC000, 0x15)])
    = some ({ zeroRegs with f := 0x60, d := 0x0F, pc := 0xC001 }, [.audioAdvance 4], noIrq, []) := by decide

/-- DEC (HL) 00. -/
theorem test_dec_atHL : after [0xC100]
    (at' { zeroRegs with h := 0xC1 } noIrq [(0xC000, 0x35), (0xC100, 0x00)])
    = some ({ zeroRegs with f := 0x60, h := 0xC1, pc := 0xC001 }, [.audioAdvance 12], noIrq, [0xFF]) := by decide

/-- DAA after add: 7D. -/
theorem test_daa : after []
    (at' { zeroRegs with a := 0x7D } noIrq [(0xC000, 0x27)])
    = some ({ zeroRegs with a := 0x83, pc := 0xC001 }, [.audioAdvance 4], noIrq, []) := by decide

/-- DAA after add: 94 with H (D40 case). -/
theorem test_daa_2 : after []
    (at' { zeroRegs with a := 0x94, f := 0x20 } noIrq [(0xC000, 0x27)])
    = some ({ zeroRegs with a := 0x9A, pc := 0xC001 }, [.audioAdvance 4], noIrq, []) := by decide

/-- CPL. -/
theorem test_cpl : after []
    (at' { zeroRegs with a := 0x35, f := 0x90 } noIrq [(0xC000, 0x2F)])
    = some ({ zeroRegs with a := 0xCA, f := 0xF0, pc := 0xC001 }, [.audioAdvance 4], noIrq, []) := by decide

/-- SCF. -/
theorem test_scf : after []
    (at' { zeroRegs with f := 0xE0 } noIrq [(0xC000, 0x37)])
    = some ({ zeroRegs with f := 0x90, pc := 0xC001 }, [.audioAdvance 4], noIrq, []) := by decide

/-- CCF C=1. -/
theorem test_ccf : after []
    (at' { zeroRegs with f := 0xF0 } noIrq [(0xC000, 0x3F)])
    = some ({ zeroRegs with f := 0x80, pc := 0xC001 }, [.audioAdvance 4], noIrq, []) := by decide

/-! ### 16-bit arithmetic (95_test_vectors.md part 2.4) -/

/-- ADD HL,BC 0FFF+0001. -/
theorem test_add_HL_BC : after []
    (at' { zeroRegs with f := 0x80, c := 0x01, h := 0x0F, l := 0xFF } noIrq [(0xC000, 0x09)])
    = some ({ zeroRegs with f := 0xA0, c := 0x01, h := 0x10, pc := 0xC001 },
      [.audioAdvance 8], noIrq, []) := by decide

/-- ADD HL,DE FFFF+0001. -/
theorem test_add_HL_DE : after []
    (at' { zeroRegs with f := 0x40, e := 0x01, h := 0xFF, l := 0xFF } noIrq [(0xC000, 0x19)])
    = some ({ zeroRegs with f := 0x30, e := 0x01, pc := 0xC001 }, [.audioAdvance 8], noIrq, []) := by decide

/-- ADD HL,HL 8000+8000. -/
theorem test_add_HL_HL : after []
    (at' { zeroRegs with h := 0x80 } noIrq [(0xC000, 0x29)])
    = some ({ zeroRegs with f := 0x10, pc := 0xC001 }, [.audioAdvance 8], noIrq, []) := by decide

/-- ADD HL,SP. -/
theorem test_add_HL_SP : after []
    (at' { zeroRegs with f := 0xF0, h := 0x12, l := 0x34, sp := 0x1111 } noIrq [(0xC000, 0x39)])
    = some ({ zeroRegs with f := 0x80, h := 0x23, l := 0x45, sp := 0x1111, pc := 0xC001 },
      [.audioAdvance 8], noIrq, []) := by decide

/-- INC BC FFFF. -/
theorem test_inc_BC : after []
    (at' { zeroRegs with f := 0xF0, b := 0xFF, c := 0xFF } noIrq [(0xC000, 0x03)])
    = some ({ zeroRegs with f := 0xF0, pc := 0xC001 }, [.audioAdvance 8], noIrq, []) := by decide

/-- INC SP. -/
theorem test_inc_SP : after []
    (at' { zeroRegs with sp := 0x00FF } noIrq [(0xC000, 0x33)])
    = some ({ zeroRegs with sp := 0x0100, pc := 0xC001 }, [.audioAdvance 8], noIrq, []) := by decide

/-- DEC DE 0000. -/
theorem test_dec_DE : after []
    (at' zeroRegs noIrq [(0xC000, 0x1B)])
    = some ({ zeroRegs with d := 0xFF, e := 0xFF, pc := 0xC001 }, [.audioAdvance 8], noIrq, []) := by decide

/-- DEC HL 0100. -/
theorem test_dec_HL : after []
    (at' { zeroRegs with h := 0x01 } noIrq [(0xC000, 0x2B)])
    = some ({ zeroRegs with l := 0xFF, pc := 0xC001 }, [.audioAdvance 8], noIrq, []) := by decide

/-- ADD SP,e -2 from FFFE. -/
theorem test_add_SP_e : after []
    (at' { zeroRegs with sp := 0xFFFE } noIrq [(0xC000, 0xE8), (0xC001, 0xFE)])
    = some ({ zeroRegs with f := 0x30, sp := 0xFFFC, pc := 0xC002 }, [.audioAdvance 16], noIrq, []) := by decide

/-! ### Rotates, shifts, bits (95_test_vectors.md part 2.5) -/

/-- RLCA 80. -/
theorem test_rlca : after []
    (at' { zeroRegs with a := 0x80, f := 0xE0 } noIrq [(0xC000, 0x07)])
    = some ({ zeroRegs with a := 0x01, f := 0x10, pc := 0xC001 }, [.audioAdvance 4], noIrq, []) := by decide

/-- RRCA 01. -/
theorem test_rrca : after []
    (at' { zeroRegs with a := 0x01 } noIrq [(0xC000, 0x0F)])
    = some ({ zeroRegs with a := 0x80, f := 0x10, pc := 0xC001 }, [.audioAdvance 4], noIrq, []) := by decide

/-- RLA 80 C=0. -/
theorem test_rla : after []
    (at' { zeroRegs with a := 0x80 } noIrq [(0xC000, 0x17)])
    = some ({ zeroRegs with f := 0x10, pc := 0xC001 }, [.audioAdvance 4], noIrq, []) := by decide

/-- RLA 00 C=1. -/
theorem test_rla_2 : after []
    (at' { zeroRegs with f := 0x10 } noIrq [(0xC000, 0x17)])
    = some ({ zeroRegs with a := 0x01, pc := 0xC001 }, [.audioAdvance 4], noIrq, []) := by decide

/-- RRA 01 C=1. -/
theorem test_rra : after []
    (at' { zeroRegs with a := 0x01, f := 0x10 } noIrq [(0xC000, 0x1F)])
    = some ({ zeroRegs with a := 0x80, f := 0x10, pc := 0xC001 }, [.audioAdvance 4], noIrq, []) := by decide

/-- RLC B 85. -/
theorem test_rlc_B : after []
    (at' { zeroRegs with b := 0x85 } noIrq [(0xC000, 0xCB), (0xC001, 0x00)])
    = some ({ zeroRegs with f := 0x10, b := 0x0B, pc := 0xC002 }, [.audioAdvance 8], noIrq, []) := by decide

/-- RRC C 01. -/
theorem test_rrc_C : after []
    (at' { zeroRegs with c := 0x01 } noIrq [(0xC000, 0xCB), (0xC001, 0x09)])
    = some ({ zeroRegs with f := 0x10, c := 0x80, pc := 0xC002 }, [.audioAdvance 8], noIrq, []) := by decide

/-- RL E 00 C=1. -/
theorem test_rl_E : after []
    (at' { zeroRegs with f := 0x10 } noIrq [(0xC000, 0xCB), (0xC001, 0x13)])
    = some ({ zeroRegs with e := 0x01, pc := 0xC002 }, [.audioAdvance 8], noIrq, []) := by decide

/-- RR A 00 C=1. -/
theorem test_rr_A : after []
    (at' { zeroRegs with f := 0x10 } noIrq [(0xC000, 0xCB), (0xC001, 0x1F)])
    = some ({ zeroRegs with a := 0x80, pc := 0xC002 }, [.audioAdvance 8], noIrq, []) := by decide

/-- SLA L FF. -/
theorem test_sla_L : after []
    (at' { zeroRegs with l := 0xFF } noIrq [(0xC000, 0xCB), (0xC001, 0x25)])
    = some ({ zeroRegs with f := 0x10, l := 0xFE, pc := 0xC002 }, [.audioAdvance 8], noIrq, []) := by decide

/-- SRA B 81. -/
theorem test_sra_B : after []
    (at' { zeroRegs with b := 0x81 } noIrq [(0xC000, 0xCB), (0xC001, 0x28)])
    = some ({ zeroRegs with f := 0x10, b := 0xC0, pc := 0xC002 }, [.audioAdvance 8], noIrq, []) := by decide

/-- SRL A 81. -/
theorem test_srl_A : after []
    (at' { zeroRegs with a := 0x81 } noIrq [(0xC000, 0xCB), (0xC001, 0x3F)])
    = some ({ zeroRegs with a := 0x40, f := 0x10, pc := 0xC002 }, [.audioAdvance 8], noIrq, []) := by decide

/-- SWAP A F1. -/
theorem test_swap_A : after []
    (at' { zeroRegs with a := 0xF1, f := 0xF0 } noIrq [(0xC000, 0xCB), (0xC001, 0x37)])
    = some ({ zeroRegs with a := 0x1F, pc := 0xC002 }, [.audioAdvance 8], noIrq, []) := by decide

/-- SWAP (HL) 00. -/
theorem test_swap_atHL : after []
    (at' { zeroRegs with f := 0x10, h := 0xC1 } noIrq [(0xC000, 0xCB), (0xC001, 0x36), (0xC100, 0x00)])
    = some ({ zeroRegs with f := 0x80, h := 0xC1, pc := 0xC002 }, [.audioAdvance 16], noIrq, []) := by decide

/-- RLC (HL). -/
theorem test_rlc_atHL : after [0xC100]
    (at' { zeroRegs with h := 0xC1 } noIrq [(0xC000, 0xCB), (0xC001, 0x06), (0xC100, 0x81)])
    = some ({ zeroRegs with f := 0x10, h := 0xC1, pc := 0xC002 }, [.audioAdvance 16], noIrq, [0x03]) := by decide

/-- BIT 7,A set. -/
theorem test_bit_7_A : after []
    (at' { zeroRegs with a := 0x80, f := 0x50 } noIrq [(0xC000, 0xCB), (0xC001, 0x7F)])
    = some ({ zeroRegs with a := 0x80, f := 0x30, pc := 0xC002 }, [.audioAdvance 8], noIrq, []) := by decide

/-- BIT 0,B clear. -/
theorem test_bit_0_B : after []
    (at' { zeroRegs with f := 0x10, b := 0xFE } noIrq [(0xC000, 0xCB), (0xC001, 0x40)])
    = some ({ zeroRegs with f := 0xB0, b := 0xFE, pc := 0xC002 }, [.audioAdvance 8], noIrq, []) := by decide

/-- BIT 0,(HL) clear. -/
theorem test_bit_0_atHL : after []
    (at' { zeroRegs with f := 0x50, h := 0xC1 } noIrq [(0xC000, 0xCB), (0xC001, 0x46), (0xC100, 0x00)])
    = some ({ zeroRegs with f := 0xB0, h := 0xC1, pc := 0xC002 }, [.audioAdvance 12], noIrq, []) := by decide

/-- BIT 3,(HL) set. -/
theorem test_bit_3_atHL : after []
    (at' { zeroRegs with f := 0xC0, h := 0xC1 } noIrq [(0xC000, 0xCB), (0xC001, 0x5E), (0xC100, 0x08)])
    = some ({ zeroRegs with f := 0x20, h := 0xC1, pc := 0xC002 }, [.audioAdvance 12], noIrq, []) := by decide

/-- RES 0,A. -/
theorem test_res_0_A : after []
    (at' { zeroRegs with a := 0xFF, f := 0xF0 } noIrq [(0xC000, 0xCB), (0xC001, 0x87)])
    = some ({ zeroRegs with a := 0xFE, f := 0xF0, pc := 0xC002 }, [.audioAdvance 8], noIrq, []) := by decide

/-- RES 7,(HL). -/
theorem test_res_7_atHL : after [0xC100]
    (at' { zeroRegs with h := 0xC1 } noIrq [(0xC000, 0xCB), (0xC001, 0xBE), (0xC100, 0xFF)])
    = some ({ zeroRegs with h := 0xC1, pc := 0xC002 }, [.audioAdvance 16], noIrq, [0x7F]) := by decide

/-- SET 1,E (bytes CB CB). -/
theorem test_set_1_E : after []
    (at' { zeroRegs with f := 0xF0 } noIrq [(0xC000, 0xCB), (0xC001, 0xCB)])
    = some ({ zeroRegs with f := 0xF0, e := 0x02, pc := 0xC002 }, [.audioAdvance 8], noIrq, []) := by decide

/-- SET 7,(HL). -/
theorem test_set_7_atHL : after [0xC100]
    (at' { zeroRegs with h := 0xC1 } noIrq [(0xC000, 0xCB), (0xC001, 0xFE), (0xC100, 0x01)])
    = some ({ zeroRegs with h := 0xC1, pc := 0xC002 }, [.audioAdvance 16], noIrq, [0x81]) := by decide

/-- SET 0,(HL) in ROM (dropped). -/
theorem test_set_0_atHL : after []
    (at' { zeroRegs with h := 0x20 } noIrq [(0xC000, 0xCB), (0xC001, 0xC6)])
    = some ({ zeroRegs with h := 0x20, pc := 0xC002 }, [.audioAdvance 16], noIrq, []) := by decide

/-! ### Jumps, calls, returns (95_test_vectors.md part 2.6) -/

/-- JP nn. -/
theorem test_jp_nn : after []
    (at' zeroRegs noIrq [(0xC000, 0xC3), (0xC001, 0x50), (0xC002, 0x01)])
    = some ({ zeroRegs with pc := 0x0150 }, [.audioAdvance 16], noIrq, []) := by decide

/-- JP Z,nn taken. -/
theorem test_jp_Z_nn : after []
    (at' { zeroRegs with f := 0x80 } noIrq [(0xC000, 0xCA), (0xC001, 0x00), (0xC002, 0x80)])
    = some ({ zeroRegs with f := 0x80, pc := 0x8000 }, [.audioAdvance 16], noIrq, []) := by decide

/-- JP NC,nn taken. -/
theorem test_jp_NC_nn : after []
    (at' zeroRegs noIrq [(0xC000, 0xD2), (0xC001, 0x00), (0xC002, 0x80)])
    = some ({ zeroRegs with pc := 0x8000 }, [.audioAdvance 16], noIrq, []) := by decide

/-- JP HL. -/
theorem test_jp_HL : after []
    (at' { zeroRegs with h := 0xC1, l := 0x23 } noIrq [(0xC000, 0xE9)])
    = some ({ zeroRegs with h := 0xC1, l := 0x23, pc := 0xC123 }, [.audioAdvance 4], noIrq, []) := by decide

/-- JR NZ,-4 taken. -/
theorem test_jr_NZ_e : after []
    (at' zeroRegs noIrq [(0xC000, 0x20), (0xC001, 0xFC)])
    = some ({ zeroRegs with pc := 0xBFFE }, [.audioAdvance 12], noIrq, []) := by decide

/-- JR C,+5 taken. -/
theorem test_jr_C_e : after []
    (at' { zeroRegs with f := 0x10 } noIrq [(0xC000, 0x38), (0xC001, 0x05)])
    = some ({ zeroRegs with f := 0x10, pc := 0xC007 }, [.audioAdvance 12], noIrq, []) := by decide

/-- CALL nn. -/
theorem test_call_nn : after [0xDFEE, 0xDFEF]
    (at' zeroRegs noIrq [(0xC000, 0xCD), (0xC001, 0x34), (0xC002, 0x12)])
    = some ({ zeroRegs with sp := 0xDFEE, pc := 0x1234 }, [.audioAdvance 24], noIrq, [0x03, 0xC0]) := by decide

/-- CALL NZ,nn not taken. -/
theorem test_call_NZ_nn : after []
    (at' { zeroRegs with f := 0x80 } noIrq [(0xC000, 0xC4), (0xC001, 0x34), (0xC002, 0x12)])
    = some ({ zeroRegs with f := 0x80, pc := 0xC003 }, [.audioAdvance 12], noIrq, []) := by decide

/-- CALL C,nn taken. -/
theorem test_call_C_nn : after [0xDFEE, 0xDFEF]
    (at' { zeroRegs with f := 0x10 } noIrq [(0xC000, 0xDC), (0xC001, 0x34), (0xC002, 0x12)])
    = some ({ zeroRegs with f := 0x10, sp := 0xDFEE, pc := 0x1234 },
      [.audioAdvance 24], noIrq, [0x03, 0xC0]) := by decide

/-- RET. -/
theorem test_ret : after []
    (at' { zeroRegs with sp := 0xC100 } noIrq [(0xC000, 0xC9), (0xC100, 0x03), (0xC101, 0x80)])
    = some ({ zeroRegs with sp := 0xC102, pc := 0x8003 }, [.audioAdvance 16], noIrq, []) := by decide

/-- RET NC taken. -/
theorem test_ret_NC : after []
    (at' { zeroRegs with sp := 0xC100 } noIrq [(0xC000, 0xD0), (0xC100, 0x03), (0xC101, 0x80)])
    = some ({ zeroRegs with sp := 0xC102, pc := 0x8003 }, [.audioAdvance 20], noIrq, []) := by decide

/-- RETI, nothing pending. -/
theorem test_reti : after []
    (at' { zeroRegs with sp := 0xC100 } noIrq [(0xC000, 0xD9), (0xC100, 0x50), (0xC101, 0x01)])
    = some ({ zeroRegs with sp := 0xC102, pc := 0x0150 },
      [.audioAdvance 16], { noIrq with ime := true }, []) := by decide

/-- RETI, source 2 pending: dispatched in the same step. -/
theorem test_reti_2 : after []
    (at' { zeroRegs with sp := 0xC100 } { noIrq with ie := 0x04, flag := 0x04 }
      [(0xC000, 0xD9), (0xC100, 0x50), (0xC101, 0x01)])
    = some ({ zeroRegs with sp := 0xC100, pc := 0x0050 },
      [.audioAdvance 36], { noIrq with ie := 0x04 }, []) := by decide

/-- RST 38. -/
theorem test_rst_38 : after [0xDFEE, 0xDFEF]
    (at' zeroRegs noIrq [(0xC000, 0xFF)])
    = some ({ zeroRegs with sp := 0xDFEE, pc := 0x0038 }, [.audioAdvance 16], noIrq, [0x01, 0xC0]) := by decide

/-! ### System instructions (95_test_vectors.md part 2.7) -/

/-- NOP. -/
theorem test_nop : after []
    (at' zeroRegs noIrq [(0xC000, 0x00)])
    = some ({ zeroRegs with pc := 0xC001 }, [.audioAdvance 4], noIrq, []) := by decide

/-- HALT, source pending, IME=0: wakes in the same step. -/
theorem test_halt : after []
    (at' zeroRegs { noIrq with ie := 0x01, flag := 0x01 } [(0xC000, 0x76)])
    = some ({ zeroRegs with pc := 0xC001 },
      [.audioAdvance 4], { noIrq with ie := 0x01, flag := 0x01 }, []) := by decide

/-- HALT, source pending, IME=1: dispatch in the same step. -/
theorem test_halt_2 : after [0xDFEE, 0xDFEF]
    (at' zeroRegs { noIrq with ie := 0x01, flag := 0x01, ime := true } [(0xC000, 0x76)])
    = some ({ zeroRegs with sp := 0xDFEE, pc := 0x0040 },
      [.audioAdvance 24], { noIrq with ie := 0x01 }, [0x01, 0xC0]) := by decide

/-- STOP. -/
theorem test_stop : after []
    (at' zeroRegs noIrq [(0xC000, 0x10), (0xC001, 0x00)])
    = some ({ zeroRegs with pc := 0xC002 }, [.audioAdvance 4], noIrq, []) := by decide

/-- DI with a pending source. -/
theorem test_di : after []
    (at' zeroRegs { noIrq with ie := 0x01, flag := 0x01, ime := true } [(0xC000, 0xF3)])
    = some ({ zeroRegs with pc := 0xC001 },
      [.audioAdvance 4], { noIrq with ie := 0x01, flag := 0x01 }, []) := by decide

/-- EI with a pending source, 1 step. -/
theorem test_ei : after []
    (at' zeroRegs { noIrq with ie := 0x01, flag := 0x01 } [(0xC000, 0xFB), (0xC001, 0x00)])
    = some ({ zeroRegs with pc := 0xC001 },
      [.audioAdvance 4], { noIrq with ie := 0x01, flag := 0x01, ime := true }, []) := by decide

/-- EI when IME is already 1: no dispatch this step. -/
theorem test_ei_2 : after []
    (at' zeroRegs { noIrq with ie := 0x01, flag := 0x01, ime := true } [(0xC000, 0xFB), (0xC001, 0x00)])
    = some ({ zeroRegs with pc := 0xC001 },
      [.audioAdvance 4], { noIrq with ie := 0x01, flag := 0x01, ime := true }, []) := by decide

/-! ### Interrupt servicing (95_test_vectors.md part 2.8) -/

/-- all five pending. -/
theorem test_nop_2 : after [0xDFEE, 0xDFEF]
    (at' zeroRegs { noIrq with ie := 0x1F, flag := 0x1F, ime := true } [(0xC000, 0x00)])
    = some ({ zeroRegs with sp := 0xDFEE, pc := 0x0040 },
      [.audioAdvance 24], { noIrq with ie := 0x1F, flag := 0x1E }, [0x01, 0xC0]) := by decide

/-! ### Run states and the decode fault (95_test_vectors.md part 2.7) -/

/-- The run state after a step, with the registers and the outputs. -/
def runAfter (s : State) : Option (RunState × Regs × List Output) :=
  match step s with
  | .next t => some (t.run, t.regs, t.outputs)
  | .fault _ | .refused _ => none

/-- HALT with nothing pending. -/
theorem test_halt_stays_halted : runAfter (at' zeroRegs noIrq [(0xC000, 0x76)])
    = some (.halted, { zeroRegs with pc := 0xC001 }, [.audioAdvance 4]) := by decide

/-- A Halted step whose source is requested and enabled, `IME = 0`: it wakes, nothing is dispatched (rule R308). -/
theorem test_halted_wakes : runAfter ((at' zeroRegs { noIrq with ie := 1, flag := 1 } []).setRun .halted)
    = some (.running, zeroRegs, [.audioAdvance 4]) := by decide

/-- A request that is not enabled wakes nothing. -/
theorem test_halted_not_enabled : runAfter ((at' zeroRegs { noIrq with ie := 2, flag := 1 } []).setRun .halted)
    = some (.halted, zeroRegs, [.audioAdvance 4]) := by decide

/-- Illegal DD: Faulted with the opcode, `PC` past it, no broadcast. -/
theorem test_illegal_DD : runAfter (at' zeroRegs noIrq [(0xC000, 0xDD)])
    = some (.faulted 0xDD, { zeroRegs with pc := 0xC001 }, []) := by decide

/-- Illegal D3 with `IME = 1` and a pending source: nothing is dispatched. -/
theorem test_illegal_D3 : runAfter (at' zeroRegs { noIrq with ie := 1, flag := 1, ime := true } [(0xC000, 0xD3)])
    = some (.faulted 0xD3, { zeroRegs with pc := 0xC001 }, []) := by decide

/-- The second step after an illegal opcode is the fault (rule R320). -/
theorem test_faulted_stops : step ((at' zeroRegs noIrq []).setRun (.faulted 0xDD)) = .fault (.decodeFault 0xDD) := rfl

/-! ### Devices (95_test_vectors.md parts 1 and 2.9 to 2.11) -/

/-- The devices after reset, no request. -/
def quiet : State := at' zeroRegs noIrq []

/-- S6: 256 cycles at 16 cycles a tick from `F0` with modulo `F0`: one reload, one request, `DIV` one higher. -/
theorem test_timer_overflow :
    (let t := timerStep 256 (((quiet.write8 0xFF07 0x05).write8 0xFF06 0xF0).write8 0xFF05 0xF0);
      (t.timer.tima, t.timer.timaAcc, t.timer.div, t.irq.flag)) = (0xF0, 0, 1, 4) := by decide

/-- `TMA = FF`: every tick overflows, and the requests merge. -/
theorem test_timer_every_tick :
    (let t := timerStep 48 (((quiet.write8 0xFF07 0x05).write8 0xFF06 0xFF).write8 0xFF05 0xFE);
      (t.timer.tima, t.irq.flag)) = (0xFF, 4) := by decide

/-- A divider write clears the divider and both accumulators, not the counter. -/
theorem test_divider_write :
    (let t := (timerStep 200 (quiet.write8 0xFF07 0x05)).write8 0xFF04 0x55;
      (t.timer.div, t.timer.divAcc, t.timer.timaAcc, t.timer.tima)) = (0, 0, 0, 0x0C) := by decide

/-- S2: one scanline from reset, one horizontal-blank event. -/
theorem test_one_scanline :
    (let t := graphicsStep 456 quiet;
      (t.readStat, t.gfx.ly, t.gfx.modeClock, t.outputs, t.irq.flag)) = (0x82, 1, 0, [.scanline 0, .hblankEvent], 0) := by
  decide

/-- The coincidence request on line 1. -/
theorem test_coincidence_request :
    (let t := graphicsStep 456 ((quiet.write8 0xFF41 0x40).write8 0xFF45 0x01);
      (t.readStat, t.irq.flag)) = (0xC6, 2) := by decide

/-- The display off. -/
def displayOff : State := quiet.write8 0xFF40 0x11

/-- Disabling the display 500 cycles after reset: a blank frame, mode 0, line 0. -/
theorem test_display_disable :
    (let t := (graphicsStep 500 quiet).write8 0xFF40 0x11;
      (t.readStat, t.gfx.ly, t.gfx.modeClock, t.outputs)) =
      (0x80, 0, 0, [.scanline 0, .hblankEvent, .blankFrame]) := by decide

/-- `STAT` stores four bits of a write. -/
theorem test_stat_mask :
    ((quiet.write8 0xFF41 0xFF).readStat, ((quiet.write8 0xFF41 0xFF).write8 0xFF41 0x00).readStat) = (0xFE, 0x86) := by
  decide

/-- `TAC` and the unused bits of `IF` as they are read. -/
theorem test_register_masks :
    ((quiet.write8 0xFF07 0xFF).read8 (.data 0) 0xFF07, (quiet.write8 0xFF0F 0xFF).read8 (.data 0) 0xFF0F,
      (quiet.write8 0xFFFF 0xFF).read8 (.data 0) 0xFFFF) = (0x07, 0xFF, 0x1F) := by decide

set_option maxRecDepth 8000 in
/-- OAM DMA from the echo, and from `OAM` itself. -/
theorem test_oam_dma :
    (((quiet.write8 0xC000 0x12).write8 0xFF46 0xE0).readMem .oam 0,
      ((quiet.write8 0xFE00 0x77).write8 0xFF46 0xFE).readMem .oam 0) = (0x12, 0x77) := by decide

/-- The VRAM DMA registers of a transfer from `C000` to `8800`. -/
def armed (v : Byte) : State :=
  ((((quiet.write8 0xFF51 0xC0).write8 0xFF52 0x00).write8 0xFF53 0x88).write8 0xFF54 0x00).write8 0xFF55 v

/-- S5: two blocks, two horizontal-blank events; `FF55` reads 01, 00, then the sentinel. -/
theorem test_incremental_dma :
    ((armed 0x81).dma.hdma5, (dmaHBlank (armed 0x81)).dma.hdma5, (dmaHBlank (dmaHBlank (armed 0x81))).dma.hdma5) =
      (0x01, 0x00, 0xFF) := by decide

/-- Abort after one block of four: `FF55` reads 82. -/
theorem test_dma_abort : ((dmaHBlank (armed 0x83)).write8 0xFF55 0x00).dma.hdma5 = 0x82 := by decide

/-- An immediate transfer of one block: low nibble of the source masked, destination `8010`. -/
theorem test_immediate_dma :
    (let s := ((((quiet.write8 0xC000 0xA0).write8 0xC00F 0xAF).write8 0xFF51 0xC0).write8 0xFF52 0x0F);
      let t := ((s.write8 0xFF53 0x00).write8 0xFF54 0x1F).write8 0xFF55 0x00;
      (t.readMem .vram 0x10, t.readMem .vram 0x1F, t.dma.hdma5)) = (0xA0, 0xAF, 0xFF) := by decide

/-! ### Reset and the host's entry point -/

/-- The reset state (95_test_vectors.md part 3): `PC`, `SP`, `F`, and what `FF40`, `FF41`, `FF0F` read as. -/
theorem test_reset :
    (State.reset.regs.pc, State.reset.regs.sp, State.reset.regs.f, State.reset.read8 (.data 0) 0xFF40,
      State.reset.read8 (.data 0) 0xFF41, State.reset.read8 (.data 0) 0xFF0F) =
      (0x0100, 0xFFFE, 0xB0, 0x91, 0x86, 0xE1) := by decide

/-- The default periods are the clock over the rates (rules R342, R344), a frame is 70224 cycles (rule R357), the last line
is 153 (rule R356). -/
theorem test_default_timing :
    (let t := Timing.default;
      (t.divPeriod * 16384, t.timaPeriod0 * 4096, t.timaPeriod1 * 262144, t.timaPeriod2 * 65536, t.timaPeriod3 * 16384) =
        (clockHz, clockHz, clockHz, clockHz, clockHz) ∧ frameCycles t = 70224 ∧ lastLine t = 153) := by decide

/-- A machine with other budgets, two visible lines and one line of vertical-blank: 1 + 2 + 3 cycles a visible line. -/
def shortFrame : State :=
  let t : Timing := { Timing.default with
    oamScanCycles := 1, pixelCycles := 2, hblankCycles := 3, lineCycles := 7, visibleLines := 2, vblankLines := 1 }
  { quiet with params := { quiet.params with timing := t } }

/-- Mode, line and accumulator of that machine after so many cycles. -/
def raster (n : Nat) : Mode × Byte × Nat :=
  let t := graphicsStep n shortFrame
  (t.gfx.mode, t.gfx.ly, t.gfx.modeClock)

/-- The parameters decide where the modes and the frame end (rules R3, R351). -/
theorem test_other_timing :
    [2, 5, 6, 12, 19].map raster =
      [(.transfer, 0, 1), (.hblank, 0, 2), (.oamScan, 1, 0), (.vblank, 2, 0), (.oamScan, 0, 0)] := by decide

/-- A placed word runs as the first instruction after reset: `JP 0150` (the example of rule R270). -/
theorem test_with_fetch_word : runAfter (State.reset.withFetchWord 24 0x0150C3)
    = some (.running, { State.reset.regs with pc := 0x0150 }, [.audioAdvance 16]) := by decide

/-! ## Witnesses

For every statement with hypotheses, a state and operands that meet them together, clause by clause. -/

/-- A next state exists where the step of a state answers one. -/
theorem next_of_after {addrs : List Word} {s : State} (h : (after addrs s).isSome = true) : ∃ t, step s = .next t := by
  unfold after at h
  split at h
  · exact ⟨_, by assumption⟩
  · simp at h
  · simp at h

/-- `CALL 1234` at `C000`. -/
def callState : State := at' zeroRegs noIrq [(0xC000, 0xCD), (0xC001, 0x34), (0xC002, 0x12)]

theorem witness_DecodeInvertsEncode : (Instr.ld_A_n 0xFF).wellFormed = true := by decide

theorem witness_EncodeInvertsDecode : decode [0xCB, 0x65, 0x00] = .ok (.bit_4_L, [0x00]) := rfl

theorem witness_CyclesBounded :
    (Instr.nop.wellFormed = true ∧ faultOpcode .nop = none) ∧
    (Instr.call_nn 0).wellFormed = true ∧ faultOpcode (.call_nn 0) = none := by decide

theorem witness_StepRunsDecoded :
    callState.run = .running ∧
    (let s₀ : State := { callState with draws := callState.draws + 1, outputs := [] };
      decode [s₀.read8 (.fetch 0) callState.regs.pc, s₀.read8 (.fetch 1) (callState.regs.pc + 1),
        s₀.read8 (.fetch 2) (callState.regs.pc + 2)] = .ok (.call_nn 0x1234, [])) := ⟨rfl, rfl⟩

theorem witness_StepFromHaltedOrFaulted :
    (quiet.setRun .halted).run = .halted ∧ (quiet.setRun (.faulted 0xD3)).run = .faulted 0xD3 := by decide

theorem witness_EveryStepCompletesUnlessFaulted : ∃ t, step callState = .next t := next_of_after (addrs := []) (by decide)

theorem witness_IllegalOpcodesFault :
    faultOpcode .illegal_D3 = some 0xD3 ∧ faultOpcode .illegal_FD = some 0xFD ∧ 0xD3 ∈ illegalOpcodes ∧
    0xFD ∈ illegalOpcodes ∧ (at' zeroRegs noIrq [(0xC000, 0xD3)]).run = .running ∧
    { at' zeroRegs noIrq [(0xC000, 0xD3)] with draws := 1, outputs := [] }.read8 (.fetch 0) 0xC000 = 0xD3 ∧
    { at' zeroRegs noIrq [(0xC000, 0xFD)] with draws := 1, outputs := [] }.read8 (.fetch 0) 0xC000 = 0xFD := by decide

/-- Every clause's premises at `DAA`; and at `RETI` those of the second clause alone, with those of the third. -/
theorem witness_GatesRunStateAndPcHaveFewWriters :
    (∃ t, exec .daa quiet = .next t) ∧ Instr.daa ≠ .ei ∧ Instr.daa ≠ .di ∧ Instr.daa ≠ .reti ∧ Instr.daa ≠ .halt ∧
    faultOpcode .daa = none ∧ (encode .daa).headD 0 ∉ transferOpcodes ∧ Instr.daa ≠ .prefixCb ∧
    (∃ t, exec .reti quiet = .next t) ∧ Instr.reti ≠ .ei ∧ Instr.reti ≠ .di ∧ Instr.reti ≠ .halt := by
  refine ⟨⟨_, rfl⟩, ?_, ?_, ?_, ?_, ?_, ?_, ?_, ⟨_, rfl⟩, ?_, ?_, ?_⟩ <;> decide

/-- The first and the last row. -/
theorem witness_LoadAccumulatorForms :
    (.ld_A_atBC, [0x0A], 8, 0, 0) ∈ accumulatorLoads quiet 0 0 ∧
    (.ld_A_atHLdec, [0x3A], 8, 0, 0xFFFF) ∈ accumulatorLoads quiet 0 0 := by decide

theorem witness_StoreAccumulatorForms :
    (.ld_atBC_A, [0x02], 8, 0, 0) ∈ accumulatorStores quiet 0 0 ∧
    (.ld_atHLdec_A, [0x32], 8, 0, 0xFFFF) ∈ accumulatorStores quiet 0 0 := by decide

/-- The stack slot of the base state, and the lowest one whose two bytes both lie in work RAM. -/
theorem witness_PopReturnsWhatWasPushed :
    (quiet.cellOf (quiet.regs.sp - 1)).isSome ∧ (quiet.cellOf (quiet.regs.sp - 2)).isSome ∧
    (∃ t, exec (.push .AF) quiet = .next t) ∧
    (quiet.cellOf (0xC002 - 1)).isSome ∧ (quiet.cellOf (0xC002 - 2)).isSome := by
  refine ⟨?_, ?_, ⟨_, rfl⟩, ?_, ?_⟩ <;> decide

theorem witness_LogicForms :
    (AluOp.AND, Bool.and, true) ∈ [(AluOp.AND, Bool.and, true), (.XOR, Bool.xor, false), (.OR, Bool.or, false)] ∧
    (AluOp.OR, Bool.or, false) ∈ [(AluOp.AND, Bool.and, true), (.XOR, Bool.xor, false), (.OR, Bool.or, false)] :=
  ⟨.head _, .tail _ (.tail _ (.head _))⟩

theorem witness_AccumulatorRotates :
    (Instr.rlca, (0x07 : Byte), RotOp.RLC) ∈
      [(Instr.rlca, (0x07 : Byte), RotOp.RLC), (.rrca, 0x0F, .RRC), (.rla, 0x17, .RL), (.rra, 0x1F, .RR)] ∧
    (Instr.rra, (0x1F : Byte), RotOp.RR) ∈
      [(Instr.rlca, (0x07 : Byte), RotOp.RLC), (.rrca, 0x0F, .RRC), (.rla, 0x17, .RL), (.rra, 0x1F, .RR)] := by decide

theorem witness_CallsAndRestarts : condHolds 0x80 .Z = true ∧ condHolds 0x80 .NZ = false := by decide

theorem witness_PrefixSelectsExtendedTable :
    (at' zeroRegs noIrq [(0xC000, 0xFF)]).read8 (.fetch 1) zeroRegs.pc = 0xFF := by decide

/-- Both ends of every range of addresses, and the two kinds of cartridge. -/
theorem witness_ReadsByRegion :
    (∃ rom, quiet.cart = .romOnly rom) ∧ (∃ w, { quiet with cart := .external [] }.cart = .external w) ∧
    (0x0000#16).toNat ≤ 0x7FFF ∧ (0x7FFF#16).toNat ≤ 0x7FFF ∧
    0xA000 ≤ (0xA000#16).toNat ∧ (0xBFFF#16).toNat ≤ 0xBFFF ∧ 0x8000 ≤ (0x8000#16).toNat ∧ (0x9FFF#16).toNat ≤ 0x9FFF ∧
    0xC000 ≤ (0xC000#16).toNat ∧ (0xCFFF#16).toNat ≤ 0xCFFF ∧ 0xD000 ≤ (0xD000#16).toNat ∧ (0xDFFF#16).toNat ≤ 0xDFFF ∧
    0xE000 ≤ (0xE000#16).toNat ∧ (0xFDFF#16).toNat ≤ 0xFDFF ∧ 0xFE00 ≤ (0xFE00#16).toNat ∧ (0xFE9F#16).toNat ≤ 0xFE9F ∧
    0xFEA0 ≤ (0xFEA0#16).toNat ∧ (0xFEFF#16).toNat ≤ 0xFEFF ∧ (0xFFFF#16).toNat = 0xFFFF ∧
    0xFF00 ≤ (0xFF00#16).toNat ∧ (0xFFFE#16).toNat ≤ 0xFFFE :=
  ⟨⟨_, rfl⟩, ⟨_, rfl⟩, by decide⟩

theorem witness_WritesByRegion :
    (∃ rom, quiet.cart = .romOnly rom) ∧ (∃ w, { quiet with cart := .external [(0, 0)] }.cart = .external w) ∧
    ((0x7FFF#16).toNat ≤ 0x7FFF ∨ 0xA000 ≤ (0x7FFF#16).toNat ∧ (0x7FFF#16).toNat ≤ 0xBFFF) ∧
    ((0xA000#16).toNat ≤ 0x7FFF ∨ 0xA000 ≤ (0xA000#16).toNat ∧ (0xA000#16).toNat ≤ 0xBFFF) ∧
    (0x8000 ≤ (0x9FFF#16).toNat ∧ (0x9FFF#16).toNat ≤ 0x9FFF) ∧ (0xC000 ≤ (0xC000#16).toNat ∧ (0xC000#16).toNat ≤ 0xCFFF) ∧
    (0xD000 ≤ (0xDFFF#16).toNat ∧ (0xDFFF#16).toNat ≤ 0xDFFF) ∧ (0xE000 ≤ (0xFDFF#16).toNat ∧ (0xFDFF#16).toNat ≤ 0xFDFF) ∧
    (0xFE00 ≤ (0xFE9F#16).toNat ∧ (0xFE9F#16).toNat ≤ 0xFE9F) ∧ (0xFEA0 ≤ (0xFEA0#16).toNat ∧ (0xFEA0#16).toNat ≤ 0xFEFF) ∧
    (0xFFFF#16).toNat = 0xFFFF ∧ (0xFF00 ≤ (0xFFFE#16).toNat ∧ (0xFFFE#16).toNat ≤ 0xFFFE) :=
  ⟨⟨_, rfl⟩, ⟨_, rfl⟩, by decide⟩

/-- A collaborator's register at both ends of the audio range, and unnamed bytes below, between and above. -/
theorem witness_IoReads :
    ((0x10#8).toNat = 0x10 ∧ 0x10 ≤ (0x3F#8).toNat ∧ (0x3F#8).toNat ≤ 0x3F) ∧
    namedIo 0x03 = false ∧ namedIo 0x4C = false ∧ namedIo 0x80 = false ∧ namedIo 0xFE = false := by decide

theorem witness_IoWrites :
    (0x10 ≤ (0x10#8).toNat ∧ (0x10#8).toNat ≤ 0x3F ∧ 0x10 ≤ (0x3F#8).toNat ∧ (0x3F#8).toNat ≤ 0x3F) ∧
    namedIo 0x03 = false ∧ namedIo 0x7F = false ∧ namedIo 0xFE = false := by decide

/-- `C000` and its echo are one byte; `C001` is another. -/
theorem witness_ReadReturnsMostRecentWrite :
    (quiet.cellOf 0xC000).isSome ∧ quiet.cellOf 0xE000 = quiet.cellOf 0xC000 ∧ quiet.cellOf 0xC001 ≠ quiet.cellOf 0xC000 ∧
    quiet.cellOf 0xC000 ≠ some (.wram, 1) := by decide

/-- No source; a source with `IME = 0`; one with `IME` pending; the least source 0 among five; source 4 alone. -/
theorem witness_InterruptServicing :
    (let q := (at' zeroRegs { noIrq with ie := 0x10, flag := 0x0F } []).irq;
      q.ie &&& q.flag = 0) ∧
    (let q := (at' zeroRegs { noIrq with ie := 0x01, flag := 0x01 } []).irq;
      q.ie &&& q.flag ≠ 0 ∧ (q.ime = false ∨ q.imePending = true)) ∧
    (let q := (at' zeroRegs { ie := 0x01, flag := 0x01, ime := true, imePending := true } []).irq;
      q.ie &&& q.flag ≠ 0 ∧ (q.ime = false ∨ q.imePending = true)) ∧
    (let q := (at' zeroRegs { noIrq with ie := 0x1F, flag := 0x1F, ime := true } []).irq;
      0 < 5 ∧ q.ie.getLsbD 0 = true ∧ q.flag.getLsbD 0 = true ∧
      (∀ j, j < 0 → (q.ie.getLsbD j && q.flag.getLsbD j) = false) ∧ q.ime = true ∧ q.imePending = false) ∧
    (let q := (at' zeroRegs { noIrq with ie := 0x1A, flag := 0x15, ime := true } []).irq;
      4 < 5 ∧ q.ie.getLsbD 4 = true ∧ q.flag.getLsbD 4 = true ∧
      (∀ j, j < 4 → (q.ie.getLsbD j && q.flag.getLsbD j) = false) ∧ q.ime = true ∧ q.imePending = false) := by decide

theorem witness_EnableLatencyIsOneInstruction :
    (at' zeroRegs noIrq [(0xC000, 0xFB)]).run = .running ∧
    { at' zeroRegs noIrq [(0xC000, 0xFB)] with draws := 1, outputs := [] }.read8 (.fetch 0) 0xC000 = 0xFB ∧
    { at' zeroRegs noIrq [(0xC000, 0xF3)] with draws := 1, outputs := [] }.read8 (.fetch 0) 0xC000 = 0xF3 := by decide

theorem witness_HaltWithoutEnabledSourceHangs :
    (quiet.setRun .halted).run = .halted ∧ (quiet.setRun .halted).irq.ie = 0 := by decide

/-- The divider one cycle below its period; a disabled counter; one that counts to 255 and no further; one that reloads
from 255 to 255; and one that reloads a second before a second overflow. -/
theorem witness_TimerCounts :
    { quiet with timer := { Timer.reset with divAcc := 255 } }.timer.divAcc < quiet.params.timing.divPeriod ∧
    { quiet with timer := { Timer.reset with tac := 3 } }.timer.tac.getLsbD 2 = false ∧
    (let period := quiet.params.timing.timaPeriod1;
      let t := { quiet with timer := { Timer.reset with tac := 5, tima := 0xF0 } }.timer;
      t.tac.getLsbD 2 = true ∧ 1 ≤ period ∧ t.tima.toNat + (t.timaAcc + 255) / period ≤ 255) ∧
    (let period := quiet.params.timing.timaPeriod1;
      let t := { quiet with timer := { Timer.reset with tac := 5, tima := 0xFF, tma := 0xFF } }.timer;
      t.tac.getLsbD 2 = true ∧ 1 ≤ period ∧ 256 ≤ t.tima.toNat + (t.timaAcc + 16) / period ∧
      t.tima.toNat + (t.timaAcc + 16) / period + t.tma.toNat ≤ 511) ∧
    (let period := quiet.params.timing.timaPeriod1;
      let t := { quiet with timer := { Timer.reset with tac := 5, tima := 0xFF, tma := 0xAB } }.timer;
      t.tac.getLsbD 2 = true ∧ 1 ≤ period ∧ 256 ≤ t.tima.toNat + (t.timaAcc + 85 * 16) / period ∧
      t.tima.toNat + (t.timaAcc + 85 * 16) / period + t.tma.toNat ≤ 511) := by decide

/-- The legal parameters of a small machine and of the default one. -/
theorem shortFrame_legal : LegalTiming shortFrame.params.timing where
  budget := by intro m; cases m <;> decide
  visible := by decide
  vblank := by decide
  lines := by decide
  div := by decide
  tima := by decide

/-- The display off; and on, each clause at the last cycle before and at the end of a mode, lines 142, 143, 152, 153. -/
theorem witness_GraphicsModeEnds :
    LegalTiming quiet.params.timing ∧ displayOff.gfx.lcdc.getLsbD 7 = false ∧ quiet.gfx.lcdc.getLsbD 7 = true ∧
    (let p := quiet.params.timing;
      let last (m : Mode) (y : Byte) (c : Nat) : Graphics := { quiet.gfx with mode := m, ly := y, modeClock := c };
      (last .vblank 144 451).modeClock + 4 < p.lineCycles ∧
      (last .oamScan 0 76).modeClock + 4 = p.oamScanCycles ∧
      (last .transfer 0 168).modeClock + 4 = p.pixelCycles ∧
      ((last .hblank 142 200).modeClock + 4 = p.hblankCycles ∧ (last .hblank 142 200).ly.toNat + 1 ≠ p.visibleLines) ∧
      ((last .hblank 143 200).modeClock + 4 = p.hblankCycles ∧ (last .hblank 143 200).ly.toNat + 1 = p.visibleLines) ∧
      ((last .vblank 152 452).modeClock + 4 = p.lineCycles ∧
        (last .vblank 152 452).ly.toNat + 1 ≠ p.visibleLines + p.vblankLines) ∧
      ((last .vblank 153 452).modeClock + 4 = p.lineCycles ∧
        (last .vblank 153 452).ly.toNat + 1 = p.visibleLines + p.vblankLines)) :=
  ⟨legalTiming_default, by decide⟩

theorem witness_GraphicsTimeIsAdditive : LegalTiming quiet.params.timing ∧ LegalTiming shortFrame.params.timing :=
  ⟨legalTiming_default, shortFrame_legal⟩

theorem witness_FrameIs70224Cycles :
    LegalTiming State.reset.params.timing ∧ State.reset.gfx.lcdc.getLsbD 7 = true ∧ State.reset.gfx.mode = .oamScan ∧
    State.reset.gfx.ly = 0 ∧ State.reset.gfx.modeClock = 0 := ⟨legalTiming_default, by decide⟩

theorem witness_DisplayControl :
    (quiet.gfx.lcdc.getLsbD 7 = true ∧ (0x7F#8).getLsbD 7 = false) ∧
    (displayOff.gfx.lcdc.getLsbD 7 = false ∧ (0x80#8).getLsbD 7 = true) ∧
    quiet.gfx.lcdc.getLsbD 7 = (0xFF#8).getLsbD 7 ∧ displayOff.gfx.lcdc.getLsbD 7 = (0x00#8).getLsbD 7 := by decide

theorem witness_OamDmaCopies160Bytes : 0 < 160 ∧ 159 < 160 := by decide

/-- A source in work RAM lies outside video RAM. -/
theorem apart_of_workRam {s : State} (h : s.dma.src = 0xC000) {base n : Nat} (hb : base + n ≤ 4096) :
    vramDmaSourceApart s base n := by
  intro k hk off
  have e : ((s.dma.src &&& 0xFFF0) + BitVec.ofNat 16 (base + k)).toNat = 0xC000 + (base + k) := by
    have m : ((0xC000 : Word) &&& 0xFFF0).toNat = 0xC000 := by decide
    rw [h, BitVec.toNat_add, m, BitVec.toNat_ofNat]
    omega
  have h1 : ¬ (0xC000 + (base + k) ≤ 0x7FFF) := by omega
  have h2 : ¬ (0xC000 + (base + k) ≤ 0x9FFF) := by omega
  have h3 : ¬ (0xC000 + (base + k) ≤ 0xBFFF) := by omega
  have h4 : 0xC000 + (base + k) ≤ 0xCFFF := by omega
  simp only [decodeAddr, e, if_neg h1, if_neg h2, if_neg h3, if_pos h4]
  exact fun c => by cases c

/-- An active transfer aborted; a transfer armed; the shortest and the longest immediate copy, the source apart. -/
theorem witness_VramDmaControl :
    ((armed 0x81).dma.active = true ∧ (0x7F#8).getLsbD 7 = false) ∧ (0x80#8).getLsbD 7 = true ∧
    ((armed 0x00).dma.active = false ∧ (0x00#8).getLsbD 7 = false ∧ (0x7F#8).getLsbD 7 = false) ∧
    vramDmaSourceApart (armed 0x00) 0 (((0x00#8).toNat % 128 + 1) * 16) ∧
    vramDmaSourceApart (armed 0x00) 0 (((0x7F#8).toNat % 128 + 1) * 16) :=
  ⟨by decide, by decide, by decide, apart_of_workRam (by decide) (by decide), apart_of_workRam (by decide) (by decide)⟩

/-- No transfer; one with one block left, one with two; the source apart. -/
theorem witness_HorizontalBlankCopiesOneBlock :
    quiet.dma.active = false ∧
    ((armed 0x80).dma.active = true ∧ 1 ≤ (armed 0x80).dma.remaining ∧ (armed 0x80).dma.remaining = 1) ∧
    ((armed 0x81).dma.active = true ∧ 1 ≤ (armed 0x81).dma.remaining ∧ (armed 0x81).dma.remaining ≠ 1) ∧
    vramDmaSourceApart (armed 0x81) ((armed 0x81).dma.block * 16) 16 :=
  ⟨by decide, by decide, by decide, apart_of_workRam (by decide) (by decide)⟩

/-- A state that meets the invariant, with stored bytes. -/
theorem callState_inv : Inv callState :=
  { core := { mem := by intro r; cases r <;> decide
              flags := by decide
              params := legalTiming_default
              gfx := { line := by decide, clock := by decide, held := by decide }
              timer := { divAcc := by decide, timaAcc := ⟨0, by decide⟩ }
              dma := { total := by decide, activeReads := by decide, idleReads := by decide } }
    notPending := by decide }

theorem witness_StepsKeepInvariant : Inv callState ∧ ∃ t, step callState = .next t :=
  ⟨callState_inv, next_of_after (addrs := []) (by decide)⟩

/-- A snapshot of an equally and of a differently configured core. -/
theorem witness_HostActions :
    callState.params = quiet.params ∧ callState.cart.sameType quiet.cart = true ∧
    { quiet with params := { quiet.params with colorMode := true } }.params ≠ quiet.params ∧
    { quiet with cart := .external [] }.cart.sameType quiet.cart = false ∧ Inv callState := by
  refine ⟨?_, ?_, ?_, ?_, callState_inv⟩ <;> decide

end Sys2Proof.Tests
end

section
/-! PROOFS. One call of `GraphicsStep` that takes out at most one budget (rules R351 to R363), and the steps from Halted
and Faulted (rules R303, R320). -/

namespace Sys2Proof.Machine

/-! ### The requests of one mode end, taken together -/

/-- Two status requests are one, made when either is enabled (rules R361, R363). -/
theorem statusRequest_statusRequest (a b : Bool) (s : State) :
    statusRequest b (statusRequest a s) = statusRequest (a || b) s := by
  cases a with
  | false => rfl
  | true =>
    cases b with
    | false => rfl
    | true =>
      show s.setIf (s.irq.flag ||| sourceBit 1 ||| sourceBit 1) = s.setIf (s.irq.flag ||| sourceBit 1)
      rw [BitVec.or_assoc, BitVec.or_self]

/-- Requests are made in either order. -/
theorem request_statusRequest (i : Nat) (e : Bool) (s : State) :
    (statusRequest e s).request i = statusRequest e (s.request i) := by
  cases e with
  | false => rfl
  | true =>
    show s.setIf (s.irq.flag ||| sourceBit 1 ||| sourceBit i) = s.setIf (s.irq.flag ||| sourceBit i ||| sourceBit 1)
    rw [BitVec.or_assoc, BitVec.or_comm (sourceBit 1), ← BitVec.or_assoc]

/-- An output does not depend on a status request. -/
theorem emit_statusRequest (o : Output) (e : Bool) (s : State) :
    (statusRequest e s).emit o = statusRequest e (s.emit o) := by
  cases e <;> rfl

theorem emit_emit (a b : Output) (s : State) : (s.emit a).emit b = { s with outputs := s.outputs ++ [a, b] } := by
  simp only [State.emit, List.append_assoc, List.singleton_append]

/-- Object-scan begins on a new line: one request, of the coincidence or of the mode (rules R358, R359, R361). -/
theorem setMode_oamScan_setScanline (y : Byte) (s : State) :
    setMode .oamScan (setScanline y s) =
      statusRequest (y == s.gfx.lyc && s.gfx.lycIe || s.gfx.oamIe)
        (s.setGfx { s.gfx with mode := .oamScan, ly := y, coinc := y == s.gfx.lyc }) := by
  rw [setScanline_eq, ← statusRequest_statusRequest]
  generalize (y == s.gfx.lyc && s.gfx.lycIe) = e
  cases e <;> rfl

/-- Vertical-blank begins on a new line: the frame, its own request, and one status request (rules R358, R359, R360,
R361). -/
theorem setMode_vblank_setScanline (y : Byte) (s : State) :
    setMode .vblank (setScanline y s) =
      statusRequest (y == s.gfx.lyc && s.gfx.lycIe || s.gfx.vblIe)
        (((s.setGfx { s.gfx with mode := .vblank, ly := y, coinc := y == s.gfx.lyc }).emit .frame).request 0) := by
  rw [setScanline_eq, ← statusRequest_statusRequest, ← request_statusRequest]
  generalize (y == s.gfx.lyc && s.gfx.lycIe) = e
  cases e <;> rfl

/-- Horizontal-blank begins: the two outputs and the status request, and then the DMA sees the event (rules R359, R361,
R362). -/
theorem setMode_hblank_request (s : State) :
    setMode .hblank s =
      dmaHBlank (statusRequest s.gfx.hblIe
        { s with gfx := { s.gfx with mode := .hblank },
                 outputs := s.outputs ++ [.scanline s.gfx.ly, .hblankEvent] }) := by
  rw [setMode_hblank_eq, emit_statusRequest, emit_emit]
  rfl

/-! ### The ends of the modes, by the line -/

/-- Line 255, whose successor wraps to 0, is never taken for the last visible one. -/
theorem succ_eq_visibleLines_iff {t : Timing} (hp : LegalTiming t) (y : Byte) :
    (y + 1).toNat = t.visibleLines ↔ y.toNat + 1 = t.visibleLines := by
  have hv := hp.visible
  have hb := hp.vblank
  have hl := hp.lines
  have hy := y.isLt
  have e : (y + 1).toNat = (y.toNat + 1) % 256 := BitVec.toNat_add y 1
  omega

theorem hblankExit_eq (s : State) :
    hblankExit s =
      if (s.gfx.ly + 1).toNat = s.params.timing.visibleLines then setMode .vblank (setScanline (s.gfx.ly + 1) s)
      else setMode .oamScan (setScanline (s.gfx.ly + 1) s) := by
  simp only [hblankExit, setScanline_gfx, setScanline_params]

/-- After a line that is not the last visible one comes object-scan (rule R355). -/
theorem hblankExit_of_not_last {s : State} (hp : LegalTiming s.params.timing)
    (h : s.gfx.ly.toNat + 1 ≠ s.params.timing.visibleLines) :
    hblankExit s = setMode .oamScan (setScanline (s.gfx.ly + 1) s) := by
  rw [hblankExit_eq, if_neg (mt (succ_eq_visibleLines_iff hp _).1 h)]

/-- After the last visible line comes vertical-blank (rule R355). -/
theorem hblankExit_of_last {s : State} (hp : LegalTiming s.params.timing)
    (h : s.gfx.ly.toNat + 1 = s.params.timing.visibleLines) :
    hblankExit s = setMode .vblank (setScanline (s.gfx.ly + 1) s) := by
  rw [hblankExit_eq, if_pos ((succ_eq_visibleLines_iff hp _).2 h)]

theorem eq_lastLine_iff {t : Timing} (hp : LegalTiming t) {n : Nat} :
    n = lastLine t ↔ n + 1 = t.visibleLines + t.vblankLines := by
  have hv := hp.visible
  unfold lastLine
  omega

/-- After the last line comes object-scan of line 0 (rule R356). -/
theorem vblankLine_of_last {s : State} (hp : LegalTiming s.params.timing)
    (h : s.gfx.ly.toNat + 1 = s.params.timing.visibleLines + s.params.timing.vblankLines) :
    vblankLine s = setMode .oamScan (setScanline 0 s) :=
  if_pos ((eq_lastLine_iff hp).2 h)

/-- After any other line vertical-blank goes on with the next (rule R356). -/
theorem vblankLine_of_not_last {s : State} (hp : LegalTiming s.params.timing)
    (h : s.gfx.ly.toNat + 1 ≠ s.params.timing.visibleLines + s.params.timing.vblankLines) :
    vblankLine s = setScanline (s.gfx.ly + 1) s :=
  if_neg (mt (eq_lastLine_iff hp).1 h)

theorem modeEnd_of_oamScan {s : State} (h : s.gfx.mode = .oamScan) : modeEnd s = setMode .transfer s := by
  simp only [modeEnd, h]

theorem modeEnd_of_transfer {s : State} (h : s.gfx.mode = .transfer) : modeEnd s = setMode .hblank s := by
  simp only [modeEnd, h]

theorem modeEnd_of_hblank {s : State} (h : s.gfx.mode = .hblank) : modeEnd s = hblankExit s := by
  simp only [modeEnd, h]

theorem modeEnd_of_vblank {s : State} (h : s.gfx.mode = .vblank) : modeEnd s = vblankLine s := by
  simp only [modeEnd, h]

/-! ### One call of `GraphicsStep` -/

/-- With the display off the engine is frozen (rule R366). -/
theorem graphicsStep_of_off (n : Nat) {s : State} (h : s.displayOn = false) : graphicsStep n s = s := by
  unfold graphicsStep
  rw [if_neg (Bool.eq_false_iff.1 h)]

/-- Cycles that do not reach the budget only accumulate (rule R352). -/
theorem graphicsStep_of_lt {n : Nat} {s : State} (hp : LegalTiming s.params.timing) (on : s.displayOn = true)
    (h : s.gfx.modeClock + n < s.budget) : graphicsStep n s = addClock n s := by
  rw [graphicsStep_on hp on (Nat.lt_succ_self _)]
  exact graphicsLoop_done _ h

/-- The accumulator emptied. -/
def clearClock (s : State) : State := s.setGfx { s.gfx with modeClock := 0 }

/-- Cycles that exactly reach the budget end the mode, once: the next mode's budget is no less than one cycle (rule
R352). -/
theorem graphicsStep_of_eq {n : Nat} {s : State} {m : Mode} (hp : LegalTiming s.params.timing) (on : s.displayOn = true)
    (hm : s.gfx.mode = m) (h : s.gfx.modeClock + n = m.budget s.params.timing) :
    graphicsStep n s = modeEnd (clearClock s) := by
  have hfull : (addClock n s).gfx.modeClock = (addClock n s).budget := by rw [← hm] at h; exact h
  have hturn : turn (addClock n s) = modeEnd (clearClock s) := by
    unfold turn
    rw [hfull, Nat.sub_self]
    rfl
  have hdone : (modeEnd (clearClock s)).gfx.modeClock < (modeEnd (clearClock s)).budget := by
    rw [modeEnd_modeClock]
    exact budget_pos (by rw [modeEnd_params]; exact hp)
  rw [graphicsStep_on hp on (Nat.lt_succ_self _), graphicsLoop_turn _ hfull.ge, hturn, graphicsLoop_done _ hdone]

/-- Settles O50, a clause for each way a call can end: by the line where the mode is horizontal- or vertical-blank. -/
theorem graphicsModeEnds : Obligations.GraphicsModeEnds := by
  unfold Obligations.GraphicsModeEnds
  refine ⟨by decide, fun n s => ⟨graphicsStep_of_off n, fun hp on => ⟨?below, ?oamScan, ?transfer, ?visibleLine,
    ?lastVisibleLine, ?vblankLine, ?lastLine⟩⟩⟩
  case below =>
    intro h
    refine graphicsStep_of_lt hp on (h.trans_eq ?_)
    unfold State.budget
    cases s.gfx.mode <;> rfl
  case oamScan =>
    intro hm h
    rw [graphicsStep_of_eq hp on hm h, modeEnd_of_oamScan (s := clearClock s) hm]
    rfl
  case transfer =>
    intro hm h
    refine ⟨_, ?_, rfl⟩
    rw [graphicsStep_of_eq hp on hm h, modeEnd_of_transfer (s := clearClock s) hm, setMode_hblank_request,
      statusRequest_eq]
    rfl
  case visibleLine =>
    intro hm h hl
    rw [graphicsStep_of_eq hp on hm h, modeEnd_of_hblank (s := clearClock s) hm,
      hblankExit_of_not_last (s := clearClock s) hp hl, setMode_oamScan_setScanline]
    exact statusRequest_eq _ _
  case lastVisibleLine =>
    intro hm h hl
    rw [graphicsStep_of_eq hp on hm h, modeEnd_of_hblank (s := clearClock s) hm,
      hblankExit_of_last (s := clearClock s) hp hl, setMode_vblank_setScanline]
    exact statusRequest_eq _ _
  case vblankLine =>
    intro hm h hl
    rw [graphicsStep_of_eq hp on hm h, modeEnd_of_vblank (s := clearClock s) hm,
      vblankLine_of_not_last (s := clearClock s) hp hl, setScanline_eq]
    exact statusRequest_eq _ _
  case lastLine =>
    intro hm h hl
    rw [graphicsStep_of_eq hp on hm h, modeEnd_of_vblank (s := clearClock s) hm,
      vblankLine_of_last (s := clearClock s) hp hl, setMode_oamScan_setScanline]
    exact statusRequest_eq _ _

/-- Settles O7: a Halted step is phases 2 and 3 alone, and from Faulted there is none. -/
theorem stepFromHaltedOrFaulted : Obligations.StepFromHaltedOrFaulted := by
  unfold Obligations.StepFromHaltedOrFaulted
  exact ⟨rfl, fun s => ⟨fun halted => step_of_halted halted, fun op faulted => step_of_faulted faulted⟩⟩

end Sys2Proof.Machine
end

section
/-! PROOFS. The writers of the gates, the run state and `PC` (rules R17, R18, R19, R281), the reset state (rules R40, R41),
and the invariant: it holds at reset and every step keeps it. -/

namespace Sys2Proof.Machine

/-! ### Who writes the gates and the run state -/

/-- An illegal opcode raises its decode fault (rule R296). -/
theorem exec_of_faultOpcode {i : Instr} {op : Byte} (h : faultOpcode i = some op) (s : State) :
    exec i s = .next (raiseDecodeFault op s) := by
  cases i <;> cases h <;> rfl

/-- What an instruction may do to the gates and the run state: leave them alone, or be one of the five kinds of writer,
whose whole effect is known (rules R279, R291, R293, R294, R296). -/
inductive GateEffect (s : State) : Instr → State → Prop where
  | same {i : Instr} {t : State} (h : GatesSame s t) : GateEffect s i t
  | halt : GateEffect s .halt (s.setRun .halted)
  | ei : GateEffect s .ei ((s.setIme true).setImePending true)
  | di : GateEffect s .di ((s.setIme false).setImePending false)
  | reti : GateEffect s .reti (returnFromInterrupt s)
  | illegal {i : Instr} {op : Byte} (h : faultOpcode i = some op) : GateEffect s i (raiseDecodeFault op s)

theorem exec_gateEffect {i : Instr} {s t : State} (h : exec i s = .next t) : GateEffect s i t := by
  by_cases halt : i = .halt
  · subst halt; cases h; exact .halt
  by_cases ei : i = .ei
  · subst ei; cases h; exact .ei
  by_cases di : i = .di
  · subst di; cases h; exact .di
  by_cases reti : i = .reti
  · subst reti; cases h; exact .reti
  cases hf : faultOpcode i with
  | none => exact .same ((exec_gates h).1 halt ei di reti hf)
  | some op =>
    cases (exec_of_faultOpcode hf s).symm.trans h
    exact .illegal hf

theorem GateEffect.ime {i : Instr} {s t : State} (h : GateEffect s i t) (ei : i ≠ .ei) (di : i ≠ .di) (reti : i ≠ .reti) :
    t.irq.ime = s.irq.ime := by
  cases h with
  | same h => exact h.ime
  | halt => rfl
  | ei => exact absurd rfl ei
  | di => exact absurd rfl di
  | reti => exact absurd rfl reti
  | illegal => rfl

theorem GateEffect.imePending {i : Instr} {s t : State} (h : GateEffect s i t) (ei : i ≠ .ei) (di : i ≠ .di) :
    t.irq.imePending = s.irq.imePending := by
  cases h with
  | same h => exact h.imePending
  | halt => rfl
  | ei => exact absurd rfl ei
  | di => exact absurd rfl di
  | reti => rfl
  | illegal => rfl

theorem GateEffect.run {i : Instr} {s t : State} (h : GateEffect s i t) (halt : i ≠ .halt) (legal : faultOpcode i = none) :
    t.run = s.run := by
  cases h with
  | same h => exact h.run
  | halt => exact absurd rfl halt
  | ei => rfl
  | di => rfl
  | reti => rfl
  | illegal h => exact nomatch legal.symm.trans h

/-- An instruction that ends a running machine in Faulted is an illegal opcode, which leaves `IME_PENDING` alone. -/
theorem GateEffect.imePending_of_faulted {i : Instr} {s t : State} {op : Byte} (h : GateEffect s i t)
    (running : s.run = .running) (faulted : t.run = .faulted op) : t.irq.imePending = s.irq.imePending := by
  cases h with
  | same h => exact h.imePending
  | halt => rfl
  | ei => cases running.symm.trans faulted
  | di => cases running.symm.trans faulted
  | reti => rfl
  | illegal => rfl

/-- Settles O10, an inversion of what an instruction can do to the gates for each clause, and for `PC` the law of `exec`. -/
theorem gatesRunStateAndPcHaveFewWriters : Obligations.GatesRunStateAndPcHaveFewWriters := by
  unfold Obligations.GatesRunStateAndPcHaveFewWriters
  intro i s t h
  have gates := exec_gateEffect h
  exact ⟨gates.ime, gates.imePending, gates.run, exec_pc h⟩

/-! ### Every step keeps the invariant -/

theorem CoreInv.beginStep {s : State} (h : CoreInv s) : CoreInv (beginStep s) := h.congr rfl rfl rfl rfl rfl rfl rfl

theorem CoreInv.afterFetch {s : State} (h : CoreInv s) : CoreInv (afterFetch s) := h.setPc _

/-- The rest of a step ends in the invariant: phases 2 and 3 clear `IME_PENDING`, and a decode fault, after which they do
not run, must find it clear. -/
theorem CoreInv.afterExec {t : State} (h : CoreInv t) (n : Nat)
    (clear : ∀ op, t.run = .faulted op → t.irq.imePending = false) : Inv (afterExec n t) := by
  unfold Machine.afterExec
  split
  next op faulted => exact ⟨h, clear op faulted⟩
  next => exact h.finishStep n
  next => exact h.finishStep n

/-- Settles O59, by the run state: a Halted step is phases 2 and 3, a Running one has an instruction before them. -/
theorem stepsKeepInvariant : Obligations.StepsKeepInvariant := by
  unfold Obligations.StepsKeepInvariant
  intro s t inv h
  cases hr : s.run with
  | faulted op => cases (step_of_faulted hr).symm.trans h
  | halted =>
    cases (step_of_halted hr).symm.trans h
    exact inv.core.beginStep.finishStep _
  | running =>
    obtain ⟨u, hu⟩ := exec_next (fetchInstr (beginStep s)) (afterFetch (beginStep s))
    cases (step_of_running hr hu).symm.trans h
    refine (inv.core.beginStep.afterFetch.exec hu).afterExec _ fun op faulted => ?_
    exact ((exec_gateEffect hu).imePending_of_faulted hr faulted).trans inv.notPending

/-! ### Reset -/

/-- Settles O57, field by field. -/
theorem resetState : Obligations.ResetState := by
  unfold Obligations.ResetState
  exact fun p cart => ⟨rfl, rfl, rfl, rfl, rfl, rfl, rfl⟩

/-- The display is on, in object-scan of line 0 (rule R41). -/
theorem graphicsReset_legal {t : Timing} (h : LegalTiming t) : Graphics.reset.Legal t where
  line := h.visible
  clock := fun _ => h.budget .oamScan
  held := by decide

theorem timerReset_legal {t : Timing} (h : LegalTiming t) : Timer.reset.Legal t := ⟨h.div, 0, h.tima 0⟩

/-- No transfer is active, and `HDMA5` reads FF (rules R41, R388). -/
theorem dmaReset_legal : Dma.reset.Legal where
  total := by decide
  activeReads := by decide
  idleReads := by decide

/-- At reset nothing has been written. -/
theorem resetWith_region (p : Params) (r : Region) : (State.resetWith p (.romOnly [])).region r = [] := by
  cases r <;> rfl

theorem resetWith_inv {p : Params} (h : LegalTiming p.timing) : Inv (State.resetWith p (.romOnly [])) where
  core :=
    { mem := fun r => by rw [resetWith_region]; exact ⟨.nil, fun _ hc => absurd hc List.not_mem_nil⟩
      flags := show (0xB0 : Byte) &&& 0x0F = 0 by decide
      params := h
      gfx := graphicsReset_legal h
      timer := timerReset_legal h
      dma := dmaReset_legal }
  notPending := rfl

/-- Settles O58, the invariant part by part; the default values are those of rule R3. -/
theorem resetMeetsInvariant : Obligations.ResetMeetsInvariant := by
  unfold Obligations.ResetMeetsInvariant
  exact ⟨fun _ h => resetWith_inv h, legalTiming_default, rfl, rfl⟩

end Sys2Proof.Machine
end

section
/-! PROOFS. Completion of a step (rules R50, R321, R325, R331), and the bus: reads and writes by region (rules R52, R53,
R54), the registers of the I/O window (rule R62), and plain memory (rule R73). -/

namespace Sys2Proof.Machine

/-! ### Completion of a step -/

/-- From every state but Faulted a step has a next state: every instruction has one. -/
theorem step_next {s : State} (h : ∀ op, s.run ≠ .faulted op) : ∃ t, step s = .next t := by
  cases hr : s.run with
  | faulted op => exact absurd hr (h op)
  | halted => exact ⟨_, step_of_halted hr⟩
  | running =>
    obtain ⟨t, ht⟩ := exec_next (fetchInstr (beginStep s)) (afterFetch (beginStep s))
    exact ⟨_, step_of_running hr ht⟩

theorem run_ne_faulted_of_step_next {s t : State} (h : step s = .next t) (op : Byte) : s.run ≠ .faulted op :=
  fun hr => nomatch (step_of_faulted hr).symm.trans h

/-- No step changes a parameter (rule R400): neither the instruction nor what follows it does. -/
theorem step_params {s t : State} (h : step s = .next t) : t.params = s.params := by
  cases hr : s.run with
  | faulted op => exact absurd hr (run_ne_faulted_of_step_next h op)
  | halted =>
    cases (step_of_halted hr).symm.trans h
    exact finishStep_params _ _
  | running =>
    obtain ⟨u, hu⟩ := exec_next (fetchInstr (beginStep s)) (afterFetch (beginStep s))
    cases (step_of_running hr hu).symm.trans h
    exact (afterExec_params _ u).trans (exec_gates hu).2

/-- Settles O8: by the run state, for an instruction always has a next state and `exec` keeps the parameters. -/
theorem everyStepCompletesUnlessFaulted : Obligations.EveryStepCompletesUnlessFaulted := by
  unfold Obligations.EveryStepCompletesUnlessFaulted
  exact fun s => ⟨⟨fun ⟨_, h⟩ => run_ne_faulted_of_step_next h, step_next⟩, fun _ => step_params⟩

/-! ### Plain memory -/

/-- Settles O44: the law of a store gives what is read through the bus; in the memories the write is one of the byte. -/
theorem readReturnsMostRecentWrite : Obligations.ReadReturnsMostRecentWrite := by
  unfold Obligations.ReadReturnsMostRecentWrite
  intro s a v ha
  obtain ⟨⟨r, k⟩, hc⟩ := Option.isSome_iff_exists.1 ha
  have store := stored_write8 s a v
  refine ⟨fun acc b hb => ?same, fun acc b hb => store.others _ hc acc b (hc ▸ hb), fun q j hq => ?other⟩
  case same =>
    have hb' : (s.write8 a v).cellOf b = some (r, k) := by rw [write8_of_cell hc, cellOf_writeMem, hb, hc]
    have ha' : (s.write8 a v).cellOf a = some (r, k) := by rw [write8_of_cell hc, cellOf_writeMem, hc]
    rw [read8_of_cell hb', ← read8_of_cell ha' acc]
    exact store.here _ hc acc
  case other =>
    rw [write8_of_cell hc]
    refine readMem_writeMem_other s v fun ⟨hr, hk⟩ => hq ?_
    rw [hc, hr, hk]

/-! ### Reads and writes by the component an address selects (rules R52, R53) -/

section
variable {s : State} {acc : Access} {a : Word} {v : Byte}

theorem read8_of_cartridge (h : decodeAddr a = .cartridge) : s.read8 acc a = s.readCartridge a := by
  simp only [State.read8, h]

theorem read8_of_vram {off : Nat} (h : decodeAddr a = .vram off) : s.read8 acc a = s.readMem .vram (s.vramCell off) := by
  simp only [State.read8, h]

theorem read8_of_workFixed {off : Nat} (h : decodeAddr a = .workFixed off) : s.read8 acc a = s.readMem .wram off := by
  simp only [State.read8, h]

theorem read8_of_workBanked {off : Nat} (h : decodeAddr a = .workBanked off) :
    s.read8 acc a = s.readMem .wram (s.wramCell off) := by
  simp only [State.read8, h]

theorem read8_of_oam {i : Nat} (h : decodeAddr a = .oam i) : s.read8 acc a = s.readMem .oam i := by
  simp only [State.read8, h]

theorem read8_of_unusable (h : decodeAddr a = .unusable) : s.read8 acc a = 0 := by
  simp only [State.read8, h]

theorem read8_of_interruptEnable (h : decodeAddr a = .interruptEnable) : s.read8 acc a = s.irq.ie.setWidth 8 := by
  simp only [State.read8, h]

theorem read8_of_io {n : Byte} (h : decodeAddr a = .io n) : s.read8 acc a = s.ioRead acc n := by
  simp only [State.read8, h]

theorem write8_of_cartridge (h : decodeAddr a = .cartridge) : s.write8 a v = s.writeCartridge a v := by
  simp only [State.write8, h]

theorem write8_of_vram {off : Nat} (h : decodeAddr a = .vram off) :
    s.write8 a v = s.writeMem .vram (s.vramCell off) v := by
  simp only [State.write8, h]

theorem write8_of_workFixed {off : Nat} (h : decodeAddr a = .workFixed off) : s.write8 a v = s.writeMem .wram off v := by
  simp only [State.write8, h]

theorem write8_of_workBanked {off : Nat} (h : decodeAddr a = .workBanked off) :
    s.write8 a v = s.writeMem .wram (s.wramCell off) v := by
  simp only [State.write8, h]

theorem write8_of_oam {i : Nat} (h : decodeAddr a = .oam i) : s.write8 a v = s.writeMem .oam i v := by
  simp only [State.write8, h]

theorem write8_of_unusable (h : decodeAddr a = .unusable) : s.write8 a v = s := by
  simp only [State.write8, h]

theorem write8_of_interruptEnable (h : decodeAddr a = .interruptEnable) : s.write8 a v = s.setIe (v.extractLsb' 0 5) := by
  simp only [State.write8, h]

theorem write8_of_io {n : Byte} (h : decodeAddr a = .io n) : s.write8 a v = ioWrite n v s := by
  simp only [State.write8, h]

/-- Addresses that select one component with one offset read alike where the component is no cartridge. -/
theorem read8_eq_of_decodeAddr_eq {b : Word} (h : decodeAddr a = decodeAddr b) (hb : decodeAddr b ≠ .cartridge) :
    s.read8 acc a = s.read8 acc b := by
  unfold State.read8
  rw [h]
  cases hd : decodeAddr b with
  | cartridge => exact absurd hd hb
  | _ => rfl

theorem write8_eq_of_decodeAddr_eq {b : Word} (h : decodeAddr a = decodeAddr b) (hb : decodeAddr b ≠ .cartridge) :
    s.write8 a v = s.write8 b v := by
  unfold State.write8
  rw [h]
  cases hd : decodeAddr b with
  | cartridge => exact absurd hd hb
  | _ => rfl

/-! The cartridge (rules R54, R56). -/

theorem decodeAddr_cartridge (h : a.toNat ≤ 0x7FFF ∨ 0xA000 ≤ a.toNat ∧ a.toNat ≤ 0xBFFF) : decodeAddr a = .cartridge :=
  h.elim decodeAddr_rom fun ⟨low, high⟩ => decodeAddr_cartRam low high

theorem readCartridge_rom {rom : Memory} (hc : s.cart = .romOnly rom) (h : a.toNat ≤ 0x7FFF) :
    s.readCartridge a = s.readMem .rom a.toNat := by
  simp only [State.readCartridge, hc, if_pos h]

theorem readCartridge_ram {rom : Memory} (hc : s.cart = .romOnly rom) (h : 0xA000 ≤ a.toNat) : s.readCartridge a = 0 := by
  simp only [State.readCartridge, hc]
  exact if_neg (by omega)

theorem readCartridge_external {w : List Host.Cell} (hc : s.cart = .external w) :
    s.readCartridge a = Config.cartridgeByte w a := by
  simp only [State.readCartridge, hc]

theorem writeCartridge_romOnly {rom : Memory} (hc : s.cart = .romOnly rom) : s.writeCartridge a v = s := by
  simp only [State.writeCartridge, hc]

theorem writeCartridge_external {w : List Host.Cell} (hc : s.cart = .external w) :
    s.writeCartridge a v = { s with cart := .external (w ++ [(a.toNat, v)]) } := by
  simp only [State.writeCartridge, hc]

end

/-- No address of the echo selects the cartridge (rule R59). -/
theorem decodeAddr_echo_ne_cartridge {a : Word} (h : 0xE000 ≤ a.toNat) (h' : a.toNat ≤ 0xFDFF) :
    decodeAddr (a - 0x2000) ≠ .cartridge := by
  rw [← decodeAddr_echo h h']
  intro hc
  have range := decodeAddr_range a
  rw [hc] at range
  simp only at range
  omega

/-- The bank of `D000`-`DFFF`: the register's 0 counts as 1 (rule R21). -/
theorem wbank_eq_max (s : State) : s.wbank = if s.params.colorMode then max s.svbk.toNat 1 else 1 := by
  unfold State.wbank
  refine if_congr Iff.rfl ?_ rfl
  split_ifs with h
  · rw [h]
    rfl
  · have pos : s.svbk.toNat ≠ 0 := fun h0 => h (BitVec.eq_of_toNat_eq h0)
    omega

/-- Settles O40, region by region. -/
theorem readsByRegion : Obligations.ReadsByRegion := by
  unfold Obligations.ReadsByRegion
  intro s acc a
  refine ⟨?rom, ?cartRam, ?external, ?vram, ?workFixed, ?workBanked, ?echo, ?oam, ?unusable, ?interruptEnable, ?io⟩
  case rom => exact fun h rom hc => (read8_of_cartridge (decodeAddr_rom h)).trans (readCartridge_rom hc h)
  case cartRam => exact fun h h' rom hc => (read8_of_cartridge (decodeAddr_cartRam h h')).trans (readCartridge_ram hc h)
  case external => exact fun h w hc => (read8_of_cartridge (decodeAddr_cartridge h)).trans (readCartridge_external hc)
  case vram => exact fun h h' => read8_of_vram (decodeAddr_vram h h')
  case workFixed => exact fun h h' => read8_of_workFixed (decodeAddr_workFixed h h')
  case workBanked =>
    intro h h'
    rw [read8_of_workBanked (decodeAddr_workBanked h h'), State.wramCell, wbank_eq_max]
  case echo => exact fun h h' => read8_eq_of_decodeAddr_eq (decodeAddr_echo h h') (decodeAddr_echo_ne_cartridge h h')
  case oam => exact fun h h' => read8_of_oam (decodeAddr_oam h h')
  case unusable => exact fun h h' => read8_of_unusable (decodeAddr_unusable h h')
  case interruptEnable => exact fun h => read8_of_interruptEnable (decodeAddr_interruptEnable h)
  case io => exact fun h h' => read8_of_io (decodeAddr_io h h')

/-- Settles O41, region by region. -/
theorem writesByRegion : Obligations.WritesByRegion := by
  unfold Obligations.WritesByRegion
  intro s a v
  refine ⟨?cartridge, ?vram, ?workFixed, ?workBanked, ?echo, ?oam, ?unusable, ?interruptEnable, ?io⟩
  case cartridge =>
    intro h
    rw [write8_of_cartridge (decodeAddr_cartridge h)]
    exact ⟨fun rom hc => writeCartridge_romOnly hc, fun w hc => writeCartridge_external hc⟩
  case vram => exact fun h h' => write8_of_vram (decodeAddr_vram h h')
  case workFixed => exact fun h h' => write8_of_workFixed (decodeAddr_workFixed h h')
  case workBanked =>
    intro h h'
    rw [write8_of_workBanked (decodeAddr_workBanked h h'), State.wramCell, wbank_eq_max]
  case echo => exact fun h h' => write8_eq_of_decodeAddr_eq (decodeAddr_echo h h') (decodeAddr_echo_ne_cartridge h h')
  case oam => exact fun h h' => write8_of_oam (decodeAddr_oam h h')
  case unusable => exact fun h h' => write8_of_unusable (decodeAddr_unusable h h')
  case interruptEnable => exact fun h => write8_of_interruptEnable (decodeAddr_interruptEnable h)
  case io => exact fun h h' => write8_of_io (decodeAddr_io h h')

/-! ### The I/O window (rule R62) -/

theorem ioReg_audio {n : Byte} (h : 0x10 ≤ n.toNat) (h' : n.toNat ≤ 0x3F) : ioReg n = .audio := by
  unfold ioReg
  iterate 7 rw [if_neg (by bv_omega)]
  exact if_pos ⟨h, h'⟩

/-- A low byte that names no register selects high RAM or its fallback (rules R62, R63). -/
theorem ioReg_of_unnamed {n : Byte} (h : namedIo n = false) : ioReg n = .highRam := by
  simp only [namedIo, List.mem_cons, List.not_mem_nil, or_false, Bool.or_eq_false_iff, decide_eq_false_iff_not, not_or,
    Bool.and_eq_false_iff, ← not_and_or] at h
  simp only [ioReg, h, if_false, or_self]

/-- `IF` reads with its three absent bits set (rule R16). -/
theorem or_setWidth_eq_ones_append (x : BitVec 5) : (0xE0 ||| x.setWidth 8 : Byte) = 7#3 ++ x := rfl

/-- Settles O42: each row is the arm of its register, the bits that are not stored read as the rules say. -/
theorem ioReads : Obligations.IoReads := by
  unfold Obligations.IoReads
  intro s acc n
  refine ⟨?rows, ?stat, ?collaborators, ?highRam⟩
  case rows =>
    have tac : s.timer.tac.setWidth 8 = 0#5 ++ s.timer.tac := BitVec.setWidth_eq_append (by decide)
    have vbk : s.gfx.vbk.setWidth 8 = 0#7 ++ s.gfx.vbk := BitVec.setWidth_eq_append (by decide)
    have svbk : s.svbk.setWidth 8 = 0#5 ++ s.svbk := BitVec.setWidth_eq_append (by decide)
    rw [← tac, ← vbk, ← svbk, ← or_setWidth_eq_ones_append]
    intro row h
    fin_cases h <;> rfl
  case stat =>
    show s.readStat = _
    unfold State.readStat
    cases s.gfx.mode <;> rfl
  case collaborators =>
    rintro (rfl | rfl | rfl | ⟨h, h'⟩)
    · rfl
    · rfl
    · rfl
    · simp only [State.ioRead, ioReg_audio h h']
  case highRam =>
    intro h
    simp only [State.ioRead, ioReg_of_unnamed h]

/-- A palette index moves on modulo 64 where auto-increment is set (rule R29). -/
theorem afterWrite_index_toNat (p : PaletteIndex) :
    p.afterWrite.index.toNat = if p.autoInc then (p.index.toNat + 1) % 64 else p.index.toNat := by
  unfold PaletteIndex.afterWrite
  split
  · exact BitVec.toNat_add p.index 1
  · rfl

theorem afterWrite_eq (p : PaletteIndex) : p.afterWrite = { p with index := p.afterWrite.index } := by
  unfold PaletteIndex.afterWrite
  split <;> rfl

/-- Settles O43: each row is the arm of its register; a palette write stores the byte and moves the index on. -/
theorem ioWrites : Obligations.IoWrites := by
  unfold Obligations.IoWrites
  intro s n v
  refine ⟨?rows, ?bcpd, ?ocpd, ?audio, ?highRam⟩
  case rows =>
    intro row h
    fin_cases h <;> rfl
  case bcpd =>
    exact ⟨_, rfl, readMem_writeMem_same s (r := .bgPalette) (by decide) _ v,
      fun k hk => readMem_writeMem_other s v fun h => hk h.2, afterWrite_index_toNat _,
      congrArg (fun p => (s.writeMem .bgPalette s.gfx.bcps.index.toNat v).setGfx { s.gfx with bcps := p })
        (afterWrite_eq _)⟩
  case ocpd =>
    exact ⟨_, rfl, readMem_writeMem_same s (r := .objPalette) (by decide) _ v,
      fun k hk => readMem_writeMem_other s v fun h => hk h.2, afterWrite_index_toNat _,
      congrArg (fun p => (s.writeMem .objPalette s.gfx.ocps.index.toNat v).setGfx { s.gfx with ocps := p })
        (afterWrite_eq _)⟩
  case audio =>
    intro h h'
    simp only [ioWrite, ioReg_audio h h']
    rfl
  case highRam =>
    intro h
    simp only [ioWrite, ioReg_of_unnamed h]

end Sys2Proof.Machine
end

section
/-! PROOFS. The decoder and the encoder (rules R100 to R116): what the encoding of a decoded instruction is, what a byte
string that decodes looks like, and that the two functions are inverse to each other. -/

namespace Sys2Proof.Machine

/-! ### The fields of an opcode (rule R103) -/

theorem twoBits_cases {P : BitVec 2 → Prop} (v : BitVec 2) (b0 : P 0) (b1 : P 1) (b2 : P 2) (b3 : P 3) : P v := by
  have h : v = 0 ∨ v = 1 ∨ v = 2 ∨ v = 3 := by decide +revert
  rcases h with rfl | rfl | rfl | rfl <;> assumption

theorem threeBits_cases {P : BitVec 3 → Prop} (v : BitVec 3) (b0 : P 0) (b1 : P 1) (b2 : P 2) (b3 : P 3) (b4 : P 4)
    (b5 : P 5) (b6 : P 6) (b7 : P 7) : P v := by
  have h : v = 0 ∨ v = 1 ∨ v = 2 ∨ v = 3 ∨ v = 4 ∨ v = 5 ∨ v = 6 ∨ v = 7 := by decide +revert
  rcases h with rfl | rfl | rfl | rfl | rfl | rfl | rfl | rfl <;> assumption

/-- An opcode is its three fields. -/
theorem fields_append (op : Byte) : fieldX op ++ fieldY op ++ fieldZ op = op := by
  decide +revert

/-! ### What a decoded instruction encodes to -/

/-- The operand bytes of an instruction that has `len` of them (rules R108, R116). -/
def operandBytes (len : Nat) (n : Byte) (nn : Word) : List Byte :=
  match len with
  | 0 => []
  | 1 => [n]
  | _ => immBytes nn

theorem immBytes_eq (nn : Word) : immBytes nn = [loByte nn, hiByte nn] := rfl

theorem immBytes_append (hi lo : Byte) : immBytes (hi ++ lo) = [lo, hi] := by
  rw [immBytes_eq, loByte_append, hiByte_append]

/-- The rows of the base table (rule R110) by their fields: each decodes to the instruction whose encoding starts with it. -/
theorem encode_decodeBase (op n : Byte) (nn : Word) :
    encode (decodeBase op n nn) = op :: operandBytes (operandLength op) n nn := by
  rw [← fields_append op]
  generalize fieldX op = x, fieldY op = y, fieldZ op = z
  cases x using twoBits_cases <;> cases y using threeBits_cases <;> cases z using threeBits_cases <;> rfl

/-- The 256 rows of the extended table (rule R111). -/
theorem encode_decodeExt (op2 : Byte) : encode (decodeExt op2) = [prefixByte, op2] := by
  decide +revert

/-- The encoding of what three bytes decode to is as many of them as the first announces (rule R116). -/
theorem encode_decodeBytes (b0 b1 b2 : Byte) :
    encode (decodeBytes b0 b1 b2) = [b0, b1, b2].take (instrLength b0) := by
  unfold decodeBytes instrLength
  split
  next h => rw [encode_decodeExt, h]; rfl
  next =>
    rw [encode_decodeBase, Nat.add_comm 1, List.take_succ_cons]
    match operandLength b0 with
    | 0 => rfl
    | 1 => rfl
    | k + 2 => simp [operandBytes, immBytes_append]

/-- Only the prefix byte alone is no instruction (rule R102). -/
theorem wellFormed_of_encode_ne {i : Instr} (h : encode i ≠ [prefixByte]) : i.wellFormed = true :=
  decide_eq_true fun hi => h (hi ▸ rfl)

theorem wellFormed_decodeExt (op2 : Byte) : (decodeExt op2).wellFormed = true :=
  wellFormed_of_encode_ne (by simp [encode_decodeExt])

theorem wellFormed_decodeBase {op : Byte} (h : op ≠ prefixByte) (n : Byte) (nn : Word) :
    (decodeBase op n nn).wellFormed = true :=
  wellFormed_of_encode_ne (by simp [encode_decodeBase, h])

theorem wellFormed_decodeBytes (b0 b1 b2 : Byte) : (decodeBytes b0 b1 b2).wellFormed = true := by
  unfold decodeBytes
  split
  next => exact wellFormed_decodeExt b1
  next h => exact wellFormed_decodeBase h b1 (b2 ++ b1)

/-! ### Decoding an encoding -/

/-- An opcode with a 16-bit immediate reads it from its two bytes, low byte first (rules R69, R108). -/
theorem decode_immBytes {c : Word → Instr} {op : Byte} (hop : op ≠ prefixByte) (hlen : operandLength op = 2)
    (hc : ∀ n nn, decodeBase op n nn = c nn) (nn : Word) (rest : List Byte) :
    decode (op :: immBytes nn ++ rest) = .ok (c nn, rest) := by
  simp [decode, immBytes_eq, hop, hlen, hc, hi_append_lo nn]

/-- Settles O2, by the constructors: a row with a 16-bit immediate has it put together again, every other row is read off
its bytes. -/
theorem decodeInvertsEncode : Obligations.DecodeInvertsEncode := by
  unfold Obligations.DecodeInvertsEncode
  intro i rest wf
  cases i with
  | prefixCb => contradiction
  | ld_BC_nn nn | ld_DE_nn nn | ld_HL_nn nn | ld_SP_nn nn | ld_atnn_SP nn | ld_atnn_A nn | ld_A_atnn nn | jp_nn nn
  | jp_NZ_nn nn | jp_Z_nn nn | jp_NC_nn nn | jp_C_nn nn | call_nn nn | call_NZ_nn nn | call_Z_nn nn | call_NC_nn nn
  | call_C_nn nn => exact decode_immBytes (by decide) rfl (fun _ _ => rfl) nn rest
  | _ => rfl

/-- Three bytes always decode, to `decodeBytes` of them: its encoding is the first of them, and that decodes to it. -/
theorem decode_three (b0 b1 b2 : Byte) :
    decode [b0, b1, b2] = .ok (decodeBytes b0 b1 b2, [b0, b1, b2].drop (instrLength b0)) := by
  have h := decodeInvertsEncode (decodeBytes b0 b1 b2) ([b0, b1, b2].drop (instrLength b0)) (wellFormed_decodeBytes b0 b1 b2)
  rwa [encode_decodeBytes, List.take_append_drop] at h

/-! ### Encoding what was decoded -/

/-- What a byte string that decodes is: the prefix byte and an extended opcode, or an opcode of the base table and its
operand bytes (rules R101, R102). -/
theorem decode_ok_cases {bytes rest : List Byte} {i : Instr} (h : decode bytes = .ok (i, rest)) :
    (∃ op2, i = decodeExt op2 ∧ bytes = prefixByte :: op2 :: rest) ∨
    ∃ op n nn, op ≠ prefixByte ∧ i = decodeBase op n nn ∧ bytes = op :: operandBytes (operandLength op) n nn ++ rest := by
  unfold decode at h
  split at h
  next => cases h
  next op tail =>
    split at h
    next hop =>
      split at h
      next op2 tail =>
        cases h
        exact .inl ⟨op2, rfl, hop ▸ rfl⟩
      next => cases h
    next hop =>
      split at h
      next hlen =>
        cases h
        exact .inr ⟨op, 0, 0, hop, rfl, by rw [hlen]; rfl⟩
      next n tail hlen =>
        cases h
        exact .inr ⟨op, n, 0, hop, rfl, by rw [hlen]; rfl⟩
      next lo hi tail hlen =>
        cases h
        exact .inr ⟨op, lo, hi ++ lo, hop, rfl, by rw [hlen]; simp [operandBytes, immBytes_append]⟩
      next => cases h

/-- Settles O3, table by table. -/
theorem encodeInvertsDecode : Obligations.EncodeInvertsDecode := by
  unfold Obligations.EncodeInvertsDecode
  intro bytes rest i h
  obtain ⟨op2, rfl, rfl⟩ | ⟨op, n, nn, hop, rfl, rfl⟩ := decode_ok_cases h
  · exact ⟨wellFormed_decodeExt op2, by rw [encode_decodeExt]; rfl⟩
  · exact ⟨wellFormed_decodeBase hop n nn, by rw [encode_decodeBase]⟩

/-- A well-formed instruction is a row of the extended table or one of the base table, with its operands filled in. -/
theorem wellFormed_cases {i : Instr} (wf : i.wellFormed = true) :
    (∃ op2, i = decodeExt op2) ∨ ∃ op n nn, op ≠ prefixByte ∧ i = decodeBase op n nn :=
  (decode_ok_cases (decodeInvertsEncode i [] wf)).imp (fun ⟨op2, hi, _⟩ => ⟨op2, hi⟩)
    fun ⟨op, n, nn, hop, hi, _⟩ => ⟨op, n, nn, hop, hi⟩

/-- Settles O1: each word computes. -/
theorem specWordsDecode : Obligations.SpecWordsDecode := by
  unfold Obligations.SpecWordsDecode
  exact ⟨rfl, rfl, rfl, rfl, rfl, rfl, rfl, rfl, rfl, rfl, rfl, rfl⟩

end Sys2Proof.Machine
end

section
/-! PROOFS. What the first byte says of an instruction: its length (rule R116), its cost (rules R112, R113), whether it is
illegal (rule R114); the prefix byte (rule R102); and a Running step (rules R101, R300). -/

namespace Sys2Proof.Machine

/-! ### Lengths (rule R116) -/

/-- The lengths by fields are those of the lists of opcodes. -/
theorem instrLength_eq (op : Byte) :
    instrLength op =
      if op = 0xCB then 2 else if op ∈ oneOperandOpcodes then 2 else if op ∈ twoOperandOpcodes then 3 else 1 := by
  decide +revert

theorem instrLength_le_three (op : Byte) : instrLength op ≤ 3 := by
  rw [instrLength_eq]
  split_ifs <;> decide

theorem length_encode_decodeBytes (b0 b1 b2 : Byte) : (encode (decodeBytes b0 b1 b2)).length = instrLength b0 := by
  rw [encode_decodeBytes, List.length_take_of_le (instrLength_le_three b0)]

theorem head?_encode_decodeBytes (b0 b1 b2 : Byte) : (encode (decodeBytes b0 b1 b2)).head? = some b0 := by
  rw [encode_decodeBytes, instrLength_eq]
  split_ifs <;> rfl

/-- Settles O4: the encoding has the length by fields, and that is the one of the lists. -/
theorem firstByteGivesLength : Obligations.FirstByteGivesLength := by
  unfold Obligations.FirstByteGivesLength
  intro op b1 b2
  rw [length_encode_decodeBytes]
  exact ⟨instrLength_eq op, rfl⟩

/-! ### Illegal opcodes (rules R114, R296) -/

/-- An illegal opcode is the whole of its instruction. -/
theorem encode_of_faultOpcode {i : Instr} {op : Byte} (h : faultOpcode i = some op) :
    op ∈ illegalOpcodes ∧ encode i = [op] := by
  cases i <;> cases h <;> exact ⟨by decide, rfl⟩

theorem faultOpcode_of_illegal {op : Byte} (h : op ∈ illegalOpcodes) (n : Byte) (nn : Word) :
    faultOpcode (decodeBase op n nn) = some op := by
  fin_cases h <;> rfl

theorem ne_prefixByte_of_illegal {op : Byte} (h : op ∈ illegalOpcodes) : op ≠ prefixByte := by
  rintro rfl
  exact absurd h (by decide)

/-- An illegal opcode has no operand. -/
theorem instrLength_of_illegal {op : Byte} (h : op ∈ illegalOpcodes) : instrLength op = 1 := by
  fin_cases h <;> rfl

theorem decodeBytes_of_ne_prefixByte {b0 : Byte} (h : b0 ≠ prefixByte) (b1 b2 : Byte) :
    decodeBytes b0 b1 b2 = decodeBase b0 b1 (b2 ++ b1) := if_neg h

/-- A legal opcode decodes to no illegal instruction, for that would encode to another first byte. -/
theorem faultOpcode_decodeBytes (op b1 b2 : Byte) :
    faultOpcode (decodeBytes op b1 b2) = if op ∈ illegalOpcodes then some op else none := by
  split
  next illegal => rw [decodeBytes_of_ne_prefixByte (ne_prefixByte_of_illegal illegal), faultOpcode_of_illegal illegal]
  next legal =>
    refine Option.eq_none_iff_forall_ne_some.2 fun op' hf => legal ?_
    obtain ⟨illegal, hop⟩ := encode_of_faultOpcode hf
    have first := head?_encode_decodeBytes op b1 b2
    rw [hop] at first
    exact Option.some.inj first ▸ illegal

theorem fetchByte_zero (s : State) : fetchByte 0 s = s.read8 (.fetch 0) s.regs.pc := by
  unfold fetchByte
  rw [BitVec.add_zero]

/-- The step that fetches an illegal opcode ends with it. -/
theorem step_of_illegal {s : State} {op : Byte} (hr : s.run = .running) (h : op ∈ illegalOpcodes)
    (hf : fetchByte 0 (beginStep s) = op) :
    step s = .next (raiseDecodeFault op ((beginStep s).setPc (s.regs.pc + 1))) := by
  have hi : faultOpcode (fetchInstr (beginStep s)) = some op := by
    rw [fetchInstr, hf, faultOpcode_decodeBytes, if_pos h]
  have hpc : afterFetch (beginStep s) = (beginStep s).setPc (s.regs.pc + 1) := by
    rw [afterFetch, hf, instrLength_of_illegal h]
    rfl
  rw [step_of_running hr (exec_of_faultOpcode hi _), hpc]
  rfl

/-- Settles O9, clause by clause. -/
theorem illegalOpcodesFault : Obligations.IllegalOpcodesFault := by
  unfold Obligations.IllegalOpcodesFault
  refine ⟨faultOpcode_decodeBytes, fun i op s h => ⟨(encode_of_faultOpcode h).2, exec_of_faultOpcode h s⟩, ?_⟩
  intro s op hr h s₀ hf
  exact ⟨_, step_of_illegal hr h ((fetchByte_zero s₀).trans hf), rfl, step_of_faulted rfl⟩

/-! ### Costs (rules R112, R113, R426) -/

/-- The costs of instructions: the multiples of 4 from 4 to 24. -/
abbrev CostInRange (n : Nat) : Prop := 4 ≤ n ∧ n ≤ 24 ∧ n % 4 = 0

theorem extendedCost_inRange (op2 : Byte) : CostInRange (extendedCost op2) := by
  unfold extendedCost
  split
  · decide
  · split_ifs <;> decide

theorem baseCost_inRange {op : Byte} (hop : op ≠ prefixByte) (legal : op ∉ illegalOpcodes) : CostInRange (baseCost op) := by
  decide +revert

theorem alternateCost_inRange {op : Byte} {cc : Cond} {alt : Nat} (h : alternateCost op = some (cc, alt)) :
    CostInRange alt := by
  unfold alternateCost at h
  split at h
  case h_5 => cases h
  all_goals
    obtain ⟨-, h⟩ := Option.ite_none_right_eq_some.1 h
    cases h
    decide

theorem encodedCost_base_inRange {op : Byte} (hop : op ≠ prefixByte) (legal : op ∉ illegalOpcodes) (rest : List Byte)
    (s : State) : CostInRange (encodedCost (op :: rest) s) := by
  have base := baseCost_inRange hop legal
  simp only [encodedCost, if_neg hop]
  split
  next cc alt h =>
    split_ifs
    · exact base
    · exact alternateCost_inRange h
  next => exact base

/-- Settles O5, table by table. -/
theorem cyclesBounded : Obligations.CyclesBounded := by
  unfold Obligations.CyclesBounded
  intro i s wf legal
  obtain ⟨op2, rfl⟩ | ⟨op, n, nn, hop, rfl⟩ := wellFormed_cases wf
  · rw [instrCycles, encode_decodeExt]
    exact extendedCost_inRange op2
  · rw [instrCycles, encode_decodeBase]
    exact encodedCost_base_inRange hop (fun h => nomatch (faultOpcode_of_illegal h n nn).symm.trans legal) _ s

/-! ### The prefix byte (rules R101, R102, R111) -/

section
variable (s : State) (op : RotOp) (b : Oct) (r : Reg8)

theorem exec_rot : exec (.rot op r) s = .next (rotReg op r s) := by cases op <;> cases r <;> rfl
theorem exec_rotHL : exec (.rotHL op) s = .next (rotHL op s) := by cases op <;> rfl
theorem exec_bit : exec (.bit b r) s = .next (testBitReg b r s) := by cases b <;> cases r <;> rfl
theorem exec_bitHL : exec (.bitHL b) s = .next (testBitHL b s) := by cases b <;> rfl
theorem exec_res : exec (.res b r) s = .next (resBitReg b r s) := by cases b <;> cases r <;> rfl
theorem exec_resHL : exec (.resHL b) s = .next (resBitHL b s) := by cases b <;> rfl
theorem exec_set : exec (.set b r) s = .next (putBitReg b r s) := by cases b <;> cases r <;> rfl
theorem exec_setHL : exec (.setHL b) s = .next (putBitHL b s) := by cases b <;> rfl

end

/-- The extended table by instructions and by operations is one (rule R111). -/
theorem exec_decodeExt (op2 : Byte) (s : State) : exec (decodeExt op2) s = .next (runExtended op2 s) := by
  unfold decodeExt runExtended
  generalize fieldX op2 = x, operandOf (fieldZ op2) = operand
  cases x using twoBits_cases with
  | b0 =>
    cases operand with
    | some r => exact exec_rot s (rotOf (fieldY op2)) r
    | none => exact exec_rotHL s (rotOf (fieldY op2))
  | b1 =>
    cases operand with
    | some r => exact exec_bit s (octOf (fieldY op2)) r
    | none => exact exec_bitHL s (octOf (fieldY op2))
  | b2 =>
    cases operand with
    | some r => exact exec_res s (octOf (fieldY op2)) r
    | none => exact exec_resHL s (octOf (fieldY op2))
  | b3 =>
    cases operand with
    | some r => exact exec_set s (octOf (fieldY op2)) r
    | none => exact exec_setHL s (octOf (fieldY op2))

/-- Settles O39: the prefix byte runs the operation of the second byte, which is what the two bytes decode to. -/
theorem prefixSelectsExtendedTable : Obligations.PrefixSelectsExtendedTable := by
  unfold Obligations.PrefixSelectsExtendedTable
  rintro s op2 rfl
  exact ⟨_, _, rfl, rfl, exec_decodeExt _ _⟩

/-! ### A Running step (rules R101, R300) -/

/-- `PC` moves past the bytes of the fetched instruction. -/
theorem afterFetch_eq (s : State) :
    afterFetch s = s.setPc (s.regs.pc + BitVec.ofNat 16 (encode (fetchInstr s)).length) := by
  rw [fetchInstr, length_encode_decodeBytes, afterFetch]

/-- Settles O6: the three bytes at `PC` decode to the fetched instruction, which has a next state. -/
theorem stepRunsDecoded : Obligations.StepRunsDecoded := by
  unfold Obligations.StepRunsDecoded
  intro s i rest hr s₀ hd
  have hi : i = fetchInstr (beginStep s) := by
    rw [← fetchByte_zero s₀] at hd
    exact (Prod.mk.inj (Except.ok.inj (hd.symm.trans (decode_three _ _ _)))).1
  subst hi
  refine ⟨wellFormed_decodeBytes _ _ _, ?_⟩
  obtain ⟨t, ht⟩ := exec_next (fetchInstr (beginStep s)) (afterFetch (beginStep s))
  rw [step_of_running hr ht]
  rw [afterFetch_eq] at ht
  generalize hu : exec _ _ = u
  obtain rfl : u = .next t := hu.symm.trans ht
  cases hrun : t.run with
  | faulted op => simp only [afterExec, hrun]
  | running | halted =>
    simp only [afterExec, hrun]
    rfl

end Sys2Proof.Machine
end

section
/-! PROOFS. The 8-bit loads and stores (rules R130 to R148): what a register load, a load of `A` and a store of `A` leave,
each said once, and the bytes, the cost and the meaning of each instruction. -/

namespace Sys2Proof.Machine

/-! ### Frames of the register loads and of the post-modification -/

theorem KeepsFSpPc.trans {s t u : State} (h : KeepsFSpPc s t) (k : KeepsFSpPc t u) : KeepsFSpPc s u :=
  ⟨k.f.trans h.f, k.sp.trans h.sp, k.pc.trans h.pc⟩

theorem keepsFSpPc_of_regs {s t : State} (h : t.regs = s.regs) : KeepsFSpPc s t := by
  constructor <;> rw [h]

theorem keepsFSpPc_setReg (s : State) (r : Reg8) (v : Byte) : KeepsFSpPc s (s.setReg r v) :=
  ⟨write_f _ _ _, write_sp _ _ _, write_pc _ _ _⟩

/-- A register load leaves its value in the register, and nothing else. -/
theorem setReg_loads (s : State) (d : Reg8) (v : Byte) :
    (s.setReg d v).reg d = v ∧ KeepsFSpPc s (s.setReg d v) ∧ RegFrame [d] s (s.setReg d v) :=
  ⟨reg_setReg_same s d v, keepsFSpPc_setReg s d v, regFrame_setReg s d v⟩

theorem reg_eq_of_regs {s t : State} (h : t.regs = s.regs) (r : Reg8) : t.reg r = s.reg r := by
  cases r <;> simp only [State.reg, h]

theorem reg_setHl_other (s : State) (v : Word) {r : Reg8} (h : r ∉ [Reg8.H, Reg8.L]) : (s.setHl v).reg r = s.reg r := by
  have hL := List.not_mem_of_not_mem_cons h
  rw [State.setHl, reg_setReg_other _ _ (List.ne_of_not_mem_cons hL), reg_setReg_other _ _ (List.ne_of_not_mem_cons h)]

section
variable (s : State) (m : AddrMode)

theorem reg_postModify_other {r : Reg8} (h : r ∉ [Reg8.H, Reg8.L]) : (s.postModify m).reg r = s.reg r := by
  cases m with
  | hlInc | hlDec => exact reg_setHl_other s _ h
  | bc | de | hl | abs _ | high _ | highC => rfl

theorem keepsFSpPc_postModify : KeepsFSpPc s (s.postModify m) := by
  cases m <;> exact ⟨rfl, rfl, rfl⟩

theorem postModify_regsOnly : s.postModify m = { s with regs := (s.postModify m).regs } := by
  cases m <;> rfl

/-- `HL` after the post-modification depends on `HL` alone (rule R148). -/
theorem hl_postModify {t : State} (h : t.hl = s.hl) : (t.postModify m).hl = (s.postModify m).hl := by
  cases m with
  | hlInc | hlDec => simp only [State.postModify, hl_setHl, h]
  | bc | de | hl | abs _ | high _ | highC => exact h

/-! ### The loads and stores of `A`, over the address modes -/

/-- A load of `A` changes `A`, and `HL` by the post-modification. -/
theorem loadA_loads :
    (loadA m s).regs.a = s.read8 (.data 0) (s.effAddr m) ∧ (loadA m s).hl = (s.postModify m).hl ∧
      KeepsFSpPc s (loadA m s) ∧ RegFrame [.A, .H, .L] s (loadA m s) := by
  refine ⟨?_, hl_postModify s m rfl, (keepsFSpPc_setReg s .A _).trans (keepsFSpPc_postModify _ m), ?_⟩
  · exact reg_postModify_other _ m (r := .A) (by decide)
  · refine regFrame_of (fun r hr => ?_) (postModify_regsOnly _ m)
    rw [loadA, reg_postModify_other _ m (List.not_mem_of_not_mem_cons hr),
      reg_setReg_other _ _ (List.ne_of_not_mem_cons hr)]

/-- A store of `A` is a store, and then `HL` changes by the post-modification. -/
theorem storeA_stores :
    ∃ u, Stored (s.effAddr m) s.regs.a s u ∧ storeA m s = { u with regs := (storeA m s).regs } ∧
      (storeA m s).hl = (s.postModify m).hl ∧ KeepsFSpPc s (storeA m s) ∧
      ∀ r, r ∉ [Reg8.H, Reg8.L] → (storeA m s).reg r = s.reg r := by
  have stored := stored_write8 s (s.effAddr m) s.regs.a
  refine ⟨_, stored, postModify_regsOnly _ m, hl_postModify s m ?_, ?_, fun r hr => ?_⟩
  · rw [State.hl, stored.regs, State.hl]
  · exact (keepsFSpPc_of_regs stored.regs).trans (keepsFSpPc_postModify _ m)
  · rw [storeA, reg_postModify_other _ m hr, reg_eq_of_regs stored.regs]

end

/-- The high page begins at `FF00` (rule R108). -/
theorem highPage_eq (n : Byte) : highPage n = 0xFF#8 ++ n := by
  decide +revert

/-- The row (instruction, bytes, cost, address, `HL` afterwards) is true of its instruction, and that one is the access in
the mode `m`. -/
structure AccessRow (access : AddrMode → State → State) (s : State) (row : Instr × List Byte × Nat × Word × Word)
    (m : AddrMode) : Prop where
  bytes : encode row.1 = row.2.1
  cost : instrCycles row.1 s = row.2.2.1
  meaning : exec row.1 s = .next (access m s)
  address : s.effAddr m = row.2.2.2.1
  hl : (s.postModify m).hl = row.2.2.2.2

theorem accessRow_of_mem_accumulatorLoads {s : State} {n : Byte} {nn : Word} :
    ∀ row ∈ accumulatorLoads s n nn, ∃ m, AccessRow loadA s row m := by
  simp only [accumulatorLoads, List.forall_mem_cons]
  exact ⟨⟨.bc, rfl, rfl, rfl, rfl, rfl⟩, ⟨.de, rfl, rfl, rfl, rfl, rfl⟩, ⟨.abs nn, rfl, rfl, rfl, rfl, rfl⟩,
    ⟨.high n, rfl, rfl, rfl, highPage_eq n, rfl⟩, ⟨.highC, rfl, rfl, rfl, highPage_eq _, rfl⟩,
    ⟨.hlInc, rfl, rfl, rfl, rfl, hl_setHl s _⟩, ⟨.hlDec, rfl, rfl, rfl, rfl, hl_setHl s _⟩, List.forall_mem_nil _⟩

theorem accessRow_of_mem_accumulatorStores {s : State} {n : Byte} {nn : Word} :
    ∀ row ∈ accumulatorStores s n nn, ∃ m, AccessRow storeA s row m := by
  simp only [accumulatorStores, List.forall_mem_cons]
  exact ⟨⟨.bc, rfl, rfl, rfl, rfl, rfl⟩, ⟨.de, rfl, rfl, rfl, rfl, rfl⟩, ⟨.abs nn, rfl, rfl, rfl, rfl, rfl⟩,
    ⟨.high n, rfl, rfl, rfl, highPage_eq n, rfl⟩, ⟨.highC, rfl, rfl, rfl, highPage_eq _, rfl⟩,
    ⟨.hlInc, rfl, rfl, rfl, rfl, hl_setHl s _⟩, ⟨.hlDec, rfl, rfl, rfl, rfl, hl_setHl s _⟩, List.forall_mem_nil _⟩

/-- Settles O13: each row is a load in its address mode. -/
theorem loadAccumulatorForms : Obligations.LoadAccumulatorForms := by
  unfold Obligations.LoadAccumulatorForms
  intro s n nn row hrow
  obtain ⟨m, h⟩ := accessRow_of_mem_accumulatorLoads row hrow
  rw [← h.address, ← h.hl]
  exact ⟨h.bytes, h.cost, _, h.meaning, loadA_loads s m⟩

/-- Settles O14: each row is a store in its address mode. -/
theorem storeAccumulatorForms : Obligations.StoreAccumulatorForms := by
  unfold Obligations.StoreAccumulatorForms
  intro s n nn row hrow
  obtain ⟨m, h⟩ := accessRow_of_mem_accumulatorStores row hrow
  obtain ⟨u, stores⟩ := storeA_stores s m
  rw [← h.address, ← h.hl]
  exact ⟨h.bytes, h.cost, u, _, h.meaning, stores⟩

/-! ### The loads between registers, and from and to the byte at `HL` -/

section
variable (d r : Reg8) (n : Byte) (s : State)

theorem exec_ld : exec (.ld d r) s = .next (loadReg d r s) := by cases d <;> cases r <;> rfl
theorem exec_ldImm : exec (.ldImm d n) s = .next (s.setReg d n) := by cases d <;> rfl
theorem exec_ldFromHL : exec (.ldFromHL d) s = .next (s.setReg d s.readHL) := by cases d <;> rfl
theorem exec_ldToHL : exec (.ldToHL r) s = .next (s.writeHL (s.reg r)) := by cases r <;> rfl

theorem encode_ld : encode (.ld d r) = [1#2 ++ regCode d ++ regCode r] := by cases d <;> cases r <;> rfl
theorem encode_ldImm : encode (.ldImm d n) = [0#2 ++ regCode d ++ 6#3, n] := by cases d <;> rfl
theorem encode_ldFromHL : encode (.ldFromHL d) = [1#2 ++ regCode d ++ 6#3] := by cases d <;> rfl
theorem encode_ldToHL : encode (.ldToHL r) = [1#2 ++ 6#3 ++ regCode r] := by cases r <;> rfl

theorem instrCycles_ld : instrCycles (.ld d r) s = 4 := by cases d <;> cases r <;> rfl
theorem instrCycles_ldImm : instrCycles (.ldImm d n) s = 8 := by cases d <;> rfl
theorem instrCycles_ldFromHL : instrCycles (.ldFromHL d) s = 8 := by cases d <;> rfl
theorem instrCycles_ldToHL : instrCycles (.ldToHL r) s = 8 := by cases r <;> rfl

end

/-- Settles O12: both are a store at `HL`. -/
theorem storeToHLForms : Obligations.StoreToHLForms := by
  unfold Obligations.StoreToHLForms
  intro r n s
  exact ⟨⟨encode_ldToHL r, instrCycles_ldToHL r s, _, exec_ldToHL r s, stored_write8 s s.hl (s.reg r)⟩,
    rfl, rfl, _, rfl, stored_write8 s s.hl n⟩

/-- Settles O11: each of the three is a write of one register. -/
theorem loadRegisterForms : Obligations.LoadRegisterForms := by
  unfold Obligations.LoadRegisterForms
  intro d r n s
  exact ⟨⟨encode_ld d r, instrCycles_ld d r s, _, exec_ld d r s, setReg_loads s d (s.reg r)⟩,
    ⟨encode_ldImm d n, instrCycles_ldImm d n s, _, exec_ldImm d n s, setReg_loads s d n⟩,
    encode_ldFromHL d, instrCycles_ldFromHL d s, _, exec_ldFromHL d s, setReg_loads s d s.readHL⟩

end Sys2Proof.Machine
end

section
/-! PROOFS. The 16-bit loads and the stack (rules R160 to R167, R224): what a write of a pair leaves, what a push and
a pop do where the stack slot is plain memory, and the bytes, the cost and the meaning of each instruction. -/

namespace Sys2Proof.Machine

/-! ### Pairs -/

section
variable (s : State) (p : Pair) (v : Word)

theorem pair_setPair_other {q : Pair} (h : q ≠ p) : (s.setPair p v).pair q = s.pair q := by
  cases p with
  | BC => cases q with
    | BC => exact absurd rfl h
    | DE | HL | SP => rfl
  | DE => cases q with
    | DE => exact absurd rfl h
    | BC | HL | SP => rfl
  | HL => cases q with
    | HL => exact absurd rfl h
    | BC | DE | SP => rfl
  | SP => cases q with
    | SP => exact absurd rfl h
    | BC | DE | HL => rfl

@[simp] theorem setPair_a : (s.setPair p v).regs.a = s.regs.a := by cases p <;> rfl
@[simp] theorem setPair_f : (s.setPair p v).regs.f = s.regs.f := by cases p <;> rfl
@[simp] theorem setPair_pc : (s.setPair p v).regs.pc = s.regs.pc := by cases p <;> rfl

theorem setPair_regsOnly : s.setPair p v = { s with regs := (s.setPair p v).regs } := by cases p <;> rfl

/-- A write of a pair is a write of registers other than `A`. -/
theorem regFrame_setPair : RegFrame [.B, .C, .D, .E, .H, .L] s (s.setPair p v) := by
  refine regFrame_of (fun r hr => ?_) (setPair_regsOnly s p v)
  cases r with
  | A => exact setPair_a s p v
  | B | C | D | E | H | L => exact absurd (by decide) hr

theorem regFrame_setHl_setFlags (fl : Flags) : RegFrame [.H, .L] s ((s.setHl v).setFlags fl) :=
  regFrame_of (fun r hr => (reg_setFlags _ fl r).trans (reg_setHl_other s v hr)) rfl

end

/-- A 16-bit value without the low nibble, from its two halves. -/
theorem hi_append_masked_lo (v : Word) : (hiByte v ++ (loByte v &&& 0xF0) : BitVec (8 + 8)) = v &&& 0xFFF0 := by
  calc (hiByte v ++ (loByte v &&& 0xF0) : BitVec (8 + 8))
      = (hiByte v &&& 0xFF#8) ++ (loByte v &&& 0xF0) := congrArg (· ++ _) BitVec.and_allOnes.symm
    _ = (hiByte v ++ loByte v) &&& (0xFF#8 ++ 0xF0#8) := BitVec.and_append.symm
    _ = v &&& 0xFFF0 := by rw [hi_append_lo]; rfl

/-- A pair of the stack instructions read back; of `AF` the low nibble is lost (rules R12, R167). -/
theorem stackPair_setStackPair (s : State) (q : StackPair) (v : Word) :
    (s.setStackPair q v).stackPair q = if q = .AF then v &&& 0xFFF0 else v := by
  cases q with
  | BC | DE | HL => exact hi_append_lo v
  | AF =>
    have masked : (loByte v &&& 0xF0) &&& 0xF0 = loByte v &&& 0xF0 := by rw [BitVec.and_assoc, BitVec.and_self]
    exact (congrArg (hiByte v ++ ·) masked).trans (hi_append_masked_lo v)

/-! ### The stack slot in plain memory (rules R160, R161) -/

/-- A store to plain memory moves no cell. -/
theorem Stored.cellOf_eq {a : Word} {v : Byte} {s t : State} (h : Stored a v s t) (ha : (s.cellOf a).isSome)
    (b : Word) : t.cellOf b = s.cellOf b := by
  obtain ⟨⟨r, k⟩, hc⟩ := Option.isSome_iff_exists.1 ha
  rw [h.effect, write8_of_cell hc, cellOf_writeMem]

/-- After a push to plain memory the two bytes are read back: the second store keeps the byte of the first, for two
neighbouring addresses are no aliases. -/
theorem Pushed.reads {v : Word} {s t : State} (h : Pushed v s t) (high : (s.cellOf (s.regs.sp - 1)).isSome)
    (low : (s.cellOf (s.regs.sp - 2)).isSome) (acc : Access) :
    t.read8 acc t.regs.sp = loByte v ∧ t.read8 acc (t.regs.sp + 1) = hiByte v := by
  obtain ⟨u, storeHigh, storeLow, regs⟩ := h
  obtain ⟨c, hc⟩ := Option.isSome_iff_exists.1 low
  obtain ⟨d, hd⟩ := Option.isSome_iff_exists.1 high
  have cells : ∀ b, u.cellOf b = s.cellOf b := storeHigh.cellOf_eq high
  have next : s.regs.sp - 2 + 1 = s.regs.sp - 1 := by bv_omega
  have apart : u.cellOf (s.regs.sp - 1) ≠ some c := by
    rw [cells]
    exact fun same => cellOf_adjacent same (by rwa [BitVec.sub_sub])
  rw [regs, next]
  refine ⟨storeLow.here c ((cells _).trans hc) acc, ?_⟩
  calc t.read8 acc (s.regs.sp - 1)
      = u.read8 acc (s.regs.sp - 1) :=
        (storeLow.others c ((cells _).trans hc) acc _ apart).trans (read8_regs u _ acc _)
    _ = hiByte v := storeHigh.here d hd acc

/-! ### The instructions -/

section
variable (p : Pair) (q : StackPair) (nn : Word) (s : State)

theorem exec_ldPair : exec (.ldPair p nn) s = .next (s.setPair p nn) := by cases p <;> rfl
theorem exec_push : exec (.push q) s = .next (push16 (s.stackPair q) s) := by cases q <;> rfl
theorem exec_pop : exec (.pop q) s = .next (popPair q s) := by cases q <;> rfl

theorem encode_ldPair : encode (.ldPair p nn) = [0#2 ++ pairCode p ++ 1#4, nn.extractLsb' 0 8, nn.extractLsb' 8 8] := by
  cases p <;> rfl
theorem encode_push : encode (.push q) = [3#2 ++ stackPairCode q ++ 5#4] := by cases q <;> rfl
theorem encode_pop : encode (.pop q) = [3#2 ++ stackPairCode q ++ 1#4] := by cases q <;> rfl

theorem instrCycles_ldPair : instrCycles (.ldPair p nn) s = 12 := by cases p <;> rfl
theorem instrCycles_push : instrCycles (.push q) s = 16 := by cases q <;> rfl
theorem instrCycles_pop : instrCycles (.pop q) s = 12 := by cases q <;> rfl

end

/-- Settles O15: a write of a pair, a write of `SP`, and two stores. -/
theorem loadPairAndStackPointer : Obligations.LoadPairAndStackPointer := by
  unfold Obligations.LoadPairAndStackPointer
  intro p nn s
  refine ⟨⟨encode_ldPair p nn, instrCycles_ldPair p nn s, _, exec_ldPair p nn s, pair_setPair s p nn,
    fun _ => pair_setPair_other s p nn, setPair_a s p nn, setPair_f s p nn, setPair_pc s p nn,
    regFrame_setPair s p nn⟩, ⟨rfl, rfl, rfl⟩, rfl, rfl, ?storeSp⟩
  case storeSp =>
    have low := stored_write8 s nn (loByte s.regs.sp)
    exact ⟨_, _, rfl, low, stored_write8 _ (nn + 1) (hiByte s.regs.sp)⟩

/-- Settles O16: both are the one sum, with its flags, written to `HL` and to `SP`. -/
theorem stackPointerPlusDisplacement : Obligations.StackPointerPlusDisplacement := by
  unfold Obligations.StackPointerPlusDisplacement
  intro e s sum f
  have toHl : exec (.ld_HL_SP_e e) s = .next ((s.setHl (addSp s.regs.sp e).1).setFlags (addSp s.regs.sp e).2) := rfl
  have toSp : exec (.add_SP_e e) s = .next ((s.setSp (addSp s.regs.sp e).1).setFlags (addSp s.regs.sp e).2) := rfl
  rw [addSp_spec] at toHl toSp
  refine ⟨⟨rfl, rfl, _, toHl, hl_setHl s sum, setFlags_f _ _, rfl, rfl, regFrame_setHl_setFlags s sum _⟩,
    rfl, rfl, ?_⟩
  rw [toSp, setFlags_eq]
  rfl

/-- Settles O17: the law of a push, of the pair as it is read. -/
theorem pushPair : Obligations.PushPair := by
  unfold Obligations.PushPair
  intro p s
  refine ⟨encode_push p, instrCycles_push p s, _, exec_push p s, ?_⟩
  cases p <;> exact pushed_push16 _ s

/-- Settles O18: `SP` is raised, and then the pair is written. -/
theorem popPair_loads : Obligations.PopPair := by
  unfold Obligations.PopPair
  intro p s
  refine ⟨encode_pop p, instrCycles_pop p s, (exec_pop p s).trans ?_⟩
  cases p <;> rfl

/-- Settles O19: the two bytes read back make up the pushed value, and it is written to the other pair. -/
theorem popReturnsWhatWasPushed : Obligations.PopReturnsWhatWasPushed := by
  unfold Obligations.PopReturnsWhatWasPushed
  intro p q s t high low hexec
  have pushed : Pushed (s.stackPair p) s t := by
    cases (exec_push p s).symm.trans hexec
    exact pushed_push16 _ s
  have reads := pushed.reads high low
  obtain ⟨-, -, -, regs⟩ := pushed
  have top : t.stackTop = s.stackPair p := by
    rw [State.stackTop, (reads _).1, (reads _).2, hi_append_lo]
  refine ⟨top, fun acc => (reads acc).1, fun acc => (reads acc).2, popPair q t, exec_pop q t, ?sp, ?value⟩
  case sp =>
    have raised : (popPair q t).regs.sp = t.regs.sp + 2 := by cases q <;> rfl
    rw [raised, regs, BitVec.sub_add_cancel]
  case value =>
    rw [← top]
    exact stackPair_setStackPair (popSp t) q t.stackTop

end Sys2Proof.Machine
end

section
/-! PROOFS. 8-bit arithmetic and logic (rules R180 to R217): what a write of a register and the flags leaves, the bytes,
the cost and the meaning of an accumulator operation in every operand form, and each result from the law of its ALU
function. -/

namespace Sys2Proof.Machine

/-! ### What a result and its flags leave -/

section
variable (s : State) (r : Reg8) (v : Byte) (fl : Flags)

/-- A write of the flags leaves them in `F`, and changes nothing else. -/
theorem setFlags_leaves :
    (s.setFlags fl).regs.f = flagByte fl.z fl.n fl.h fl.c ∧ (s.setFlags fl).regs.sp = s.regs.sp ∧
      (s.setFlags fl).regs.pc = s.regs.pc ∧ RegFrame [] s (s.setFlags fl) :=
  ⟨setFlags_f s fl, rfl, rfl, regFrame_of (fun q _ => reg_setFlags s fl q) rfl⟩

/-- A write of a register and the flags leaves them there, and changes nothing else. -/
theorem setReg_setFlags_leaves :
    ((s.setReg r v).setFlags fl).reg r = v ∧
      ((s.setReg r v).setFlags fl).regs.f = flagByte fl.z fl.n fl.h fl.c ∧
      ((s.setReg r v).setFlags fl).regs.sp = s.regs.sp ∧ ((s.setReg r v).setFlags fl).regs.pc = s.regs.pc ∧
      RegFrame [r] s ((s.setReg r v).setFlags fl) :=
  ⟨(reg_setFlags _ fl r).trans (reg_setReg_same s r v), setFlags_f _ fl, write_sp _ _ _, write_pc _ _ _,
    regFrame_setReg_setFlags s r v fl⟩

/-- A store at `HL` of a byte computed with its flags: the flags are written before the byte. -/
theorem stored_writeHL_setFlags (z n h c : Bool) :
    Stored s.hl v { s with regs := { s.regs with f := flagByte z n h c } }
      ((s.setFlags { z := z, n := n, h := h, c := c }).writeHL v) := by
  have stored := stored_write8 (s.setFlags { z := z, n := n, h := h, c := c }) s.hl v
  rwa [setFlags_eq] at stored ⊢

end

/-! ### The accumulator operations, over the operand forms (rule R176) -/

section
variable (op : AluOp) (form : AluForm) (s : State)

theorem encode_aluForm : encode (form.instr op) = form.bytes op := by
  cases form with
  | reg r => cases op <;> cases r <;> rfl
  | memory | immediate n => cases op <;> rfl

theorem instrCycles_aluForm : instrCycles (form.instr op) s = form.cost := by
  cases form with
  | reg r => cases op <;> cases r <;> rfl
  | memory | immediate n => cases op <;> rfl

theorem exec_aluForm : exec (form.instr op) s = .next (accumulate op (form.value s) s) := by
  cases form with
  | reg r => cases op <;> cases r <;> rfl
  | memory | immediate n => cases op <;> rfl

/-- Every operation but `CP` has its form's bytes and cost, leaves its result in `A` and its flags in `F`,
and changes nothing else. -/
theorem aluForm_leaves {op : AluOp} (h : op ≠ .CP) {z n hc c : Bool}
    (flags : (aluResult op s.regs.a (form.value s) s.carry).2 = { z := z, n := n, h := hc, c := c }) :
    encode (form.instr op) = form.bytes op ∧ instrCycles (form.instr op) s = form.cost ∧
      ∃ t, exec (form.instr op) s = .next t ∧ t.regs.a = (aluResult op s.regs.a (form.value s) s.carry).1 ∧
        t.regs.f = flagByte z n hc c ∧ t.regs.sp = s.regs.sp ∧ t.regs.pc = s.regs.pc ∧ RegFrame [.A] s t := by
  have written : accumulate op (form.value s) s =
      (s.setReg .A (aluResult op s.regs.a (form.value s) s.carry).1).setFlags
        (aluResult op s.regs.a (form.value s) s.carry).2 := by
    cases op with
    | CP => exact absurd rfl h
    | ADD | ADC | SUB | SBC | AND | XOR | OR => rfl
  have meaning := exec_aluForm op form s
  rw [written, flags] at meaning
  exact ⟨encode_aluForm op form, instrCycles_aluForm op form s, _, meaning, setReg_setFlags_leaves s .A _ _⟩

end

/-! ### The results of the accumulator operations -/

/-- The carry in of an operation with carry, as a number. -/
theorem toNat_carryIf (withCarry c : Bool) : (withCarry && c).toNat = if withCarry then c.toNat else 0 := by
  cases withCarry <;> rfl

/-- `Logic8` bit by bit, with its flags (rule R174). -/
theorem aluResult_logic (a b : Byte) (c : Bool) :
    ∀ row ∈ [(AluOp.AND, Bool.and, true), (.XOR, Bool.xor, false), (.OR, Bool.or, false)],
      row.1 ≠ .CP ∧ (∀ k, (aluResult row.1 a b c).1.getLsbD k = row.2.1 (a.getLsbD k) (b.getLsbD k)) ∧
        (aluResult row.1 a b c).2 = logicFlags (aluResult row.1 a b c).1 row.2.2 := by
  simp only [List.forall_mem_cons]
  exact ⟨⟨nofun, fun _ => BitVec.getLsbD_and, rfl⟩, ⟨nofun, fun _ => BitVec.getLsbD_xor, rfl⟩,
    ⟨nofun, fun _ => BitVec.getLsbD_or, rfl⟩, List.forall_mem_nil _⟩

/-- A difference is zero exactly when the operands are equal. -/
theorem sub8_eq_zero_iff (a b : Byte) : (sub8 a b false).1.toNat = 0 ↔ a = b := by
  have diff : ((sub8 a b false).1.toNat + b.toNat + 0) % 256 = a.toNat := (sub8_spec a b false).1
  have hr := (sub8 a b false).1.isLt
  have hb := b.isLt
  rw [← BitVec.toNat_inj]
  omega

/-- Settles O20: `ADD` and `ADC` are `Add8` with its carry in. -/
theorem addForms : Obligations.AddForms := by
  unfold Obligations.AddForms
  intro withCarry form s op a b c
  have noCp : op ≠ .CP := by cases withCarry <;> nofun
  have result : aluResult op s.regs.a (form.value s) s.carry =
      add8 s.regs.a (form.value s) (withCarry && s.carry) := by cases withCarry <;> rfl
  have spec := add8_spec s.regs.a (form.value s) (withCarry && s.carry)
  rw [toNat_carryIf, ← result] at spec
  obtain ⟨sum, flags⟩ := spec
  obtain ⟨bytes, cost, t, meaning, inA, rest⟩ := aluForm_leaves form s noCp flags
  refine ⟨bytes, cost, t, meaning, ?_⟩
  rw [inA]
  exact ⟨sum, rest⟩

/-- Settles O21: `SUB` and `SBC` are `Sub8` with its borrow in. -/
theorem subtractForms : Obligations.SubtractForms := by
  unfold Obligations.SubtractForms
  intro withCarry form s op a b c
  have noCp : op ≠ .CP := by cases withCarry <;> nofun
  have result : aluResult op s.regs.a (form.value s) s.carry =
      sub8 s.regs.a (form.value s) (withCarry && s.carry) := by cases withCarry <;> rfl
  have spec := sub8_spec s.regs.a (form.value s) (withCarry && s.carry)
  rw [toNat_carryIf, ← result] at spec
  obtain ⟨difference, flags⟩ := spec
  obtain ⟨bytes, cost, t, meaning, inA, rest⟩ := aluForm_leaves form s noCp flags
  refine ⟨bytes, cost, t, meaning, ?_⟩
  rw [inA]
  exact ⟨difference, rest⟩

/-- Settles O22: each row is `Logic8` of its operation. -/
theorem logicForms : Obligations.LogicForms := by
  unfold Obligations.LogicForms
  intro form s row hrow
  obtain ⟨noCp, bits, flags⟩ := aluResult_logic s.regs.a (form.value s) s.carry row hrow
  obtain ⟨bytes, cost, t, meaning, inA, rest⟩ := aluForm_leaves form s noCp flags
  refine ⟨bytes, cost, t, meaning, ?_⟩
  rw [inA]
  exact ⟨bits, rest⟩

/-- Settles O23: `CP` writes the flags of a difference, which is zero exactly for equal operands. -/
theorem compareForms : Obligations.CompareForms := by
  unfold Obligations.CompareForms
  intro form s a b
  have flags := (sub8_spec s.regs.a (form.value s) false).2
  simp only [sub8_eq_zero_iff] at flags
  have meaning : exec (form.instr .CP) s = .next (s.setFlags (sub8 s.regs.a (form.value s) false).2) :=
    exec_aluForm .CP form s
  rw [flags] at meaning
  exact ⟨encode_aluForm .CP form, instrCycles_aluForm .CP form s, _, meaning, setFlags_leaves s _⟩

/-! ### `INC` and `DEC` (rules R206 to R209) -/

section
variable (r : Reg8) (s : State)

theorem exec_inc : exec (.inc r) s = .next (incReg r s) := by cases r <;> rfl
theorem exec_dec : exec (.dec r) s = .next (decReg r s) := by cases r <;> rfl

theorem encode_inc : encode (.inc r) = [0#2 ++ regCode r ++ 4#3] := by cases r <;> rfl
theorem encode_dec : encode (.dec r) = [0#2 ++ regCode r ++ 5#3] := by cases r <;> rfl

theorem instrCycles_inc : instrCycles (.inc r) s = 4 := by cases r <;> rfl
theorem instrCycles_dec : instrCycles (.dec r) s = 4 := by cases r <;> rfl

/-- `INC r` leaves the successor in the register, and its flags (rule R206). -/
theorem incReg_leaves :
    ((incReg r s).reg r).toNat = ((s.reg r).toNat + 1) % 256 ∧
      (incReg r s).regs.f =
        flagByte (decide ((s.reg r).toNat = 255)) false (decide ((s.reg r).toNat % 16 = 15)) s.carry ∧
      (incReg r s).regs.sp = s.regs.sp ∧ (incReg r s).regs.pc = s.regs.pc ∧ RegFrame [r] s (incReg r s) := by
  obtain ⟨value, flags⟩ := inc8_spec (s.reg r) s.flags
  obtain ⟨inR, rest⟩ := setReg_setFlags_leaves s r (inc8 (s.reg r) s.flags).1 _
  rw [incReg, flags]
  exact ⟨(congrArg BitVec.toNat inR).trans value, rest⟩

/-- `DEC r` leaves the predecessor in the register, and its flags (rule R208). -/
theorem decReg_leaves :
    ((decReg r s).reg r).toNat = ((s.reg r).toNat + 255) % 256 ∧
      (decReg r s).regs.f =
        flagByte (decide ((s.reg r).toNat = 1)) true (decide ((s.reg r).toNat % 16 = 0)) s.carry ∧
      (decReg r s).regs.sp = s.regs.sp ∧ (decReg r s).regs.pc = s.regs.pc ∧ RegFrame [r] s (decReg r s) := by
  obtain ⟨value, flags⟩ := dec8_spec (s.reg r) s.flags
  obtain ⟨inR, rest⟩ := setReg_setFlags_leaves s r (dec8 (s.reg r) s.flags).1 _
  rw [decReg, flags]
  exact ⟨(congrArg BitVec.toNat inR).trans value, rest⟩

end

/-- Settles O24: each is a write of the register and the flags. -/
theorem incrementDecrementRegister : Obligations.IncrementDecrementRegister := by
  unfold Obligations.IncrementDecrementRegister
  intro r s
  exact ⟨⟨encode_inc r, instrCycles_inc r s, _, exec_inc r s, incReg_leaves r s⟩,
    encode_dec r, instrCycles_dec r s, _, exec_dec r s, decReg_leaves r s⟩

/-- Settles O25: each writes the flags, and then is a store at `HL`. -/
theorem incrementDecrementMemory : Obligations.IncrementDecrementMemory := by
  unfold Obligations.IncrementDecrementMemory
  intro s v
  have inc : exec .inc_atHL s = .next ((s.setFlags (inc8 v s.flags).2).writeHL (v + 1)) := rfl
  have dec : exec .dec_atHL s = .next ((s.setFlags (dec8 v s.flags).2).writeHL (v - 1)) := rfl
  rw [(inc8_spec v s.flags).2] at inc
  rw [(dec8_spec v s.flags).2] at dec
  exact ⟨⟨rfl, rfl, _, inc, stored_writeHL_setFlags s _ _ _ _ _⟩,
    rfl, rfl, _, dec, stored_writeHL_setFlags s _ _ _ _ _⟩

/-! ### `DAA`, `CPL`, `SCF` and `CCF` (rules R214 to R217) -/

/-- Settles O26: `DAA` writes `A` and the flags, as its law says of the flags before it. -/
theorem decimalAdjust : Obligations.DecimalAdjust := by
  unfold Obligations.DecimalAdjust
  intro s a n low high corr
  have meaning : exec .daa s =
      .next ((s.setReg .A (daa8 s.regs.a s.flags).1).setFlags (daa8 s.regs.a s.flags).2) := rfl
  obtain ⟨value, flags⟩ := daa8_spec s.regs.a s.flags.n s.flags.h s.flags.c s.flags.z
  rw [flags] at meaning
  obtain ⟨-, rest⟩ := setReg_setFlags_leaves s .A (daa8 s.regs.a s.flags).1 _
  exact ⟨rfl, rfl, _, meaning, value, rest⟩

/-- Settles O27: `CPL` writes `A` and the flags, `SCF` and `CCF` the flags alone. -/
theorem complementAndCarryFlag : Obligations.ComplementAndCarryFlag := by
  unfold Obligations.ComplementAndCarryFlag
  intro s z
  have complement : (s.regs.a ^^^ 0xFF).toNat = 255 - s.regs.a.toNat :=
    (congrArg BitVec.toNat BitVec.xor_allOnes).trans BitVec.toNat_not
  obtain ⟨inA, rest⟩ := setReg_setFlags_leaves s .A (s.regs.a ^^^ 0xFF) { s.flags with n := true, h := true }
  exact ⟨⟨rfl, rfl, _, rfl, (congrArg BitVec.toNat inA).trans complement, rest⟩,
    ⟨rfl, rfl, _, rfl, setFlags_leaves s { s.flags with n := false, h := false, c := true }⟩,
    rfl, rfl, _, rfl, setFlags_leaves s { s.flags with n := false, h := false, c := !s.flags.c }⟩

end Sys2Proof.Machine
end

section
/-! PROOFS. 16-bit arithmetic (rules R220 to R223): what a write of a pair and a write of `HL` with the flags leave, and
the bytes, the cost and the meaning of `INC rr`, `DEC rr` and `ADD HL,rr`. -/

namespace Sys2Proof.Machine

section
variable (p : Pair) (v : Word) (fl : Flags) (s : State)

/-- A write of a pair leaves its value there, writes no flag, and changes nothing else. -/
theorem setPair_leaves :
    (s.setPair p v).pair p = v ∧ (∀ q, q ≠ p → (s.setPair p v).pair q = s.pair q) ∧
      (s.setPair p v).regs.a = s.regs.a ∧ (s.setPair p v).regs.f = s.regs.f ∧ (s.setPair p v).regs.pc = s.regs.pc ∧
      RegFrame [.B, .C, .D, .E, .H, .L] s (s.setPair p v) :=
  ⟨pair_setPair s p v, fun _ => pair_setPair_other s p v, setPair_a s p v, setPair_f s p v, setPair_pc s p v,
    regFrame_setPair s p v⟩

/-- A write of `HL` and the flags leaves them there, and changes nothing else. -/
theorem setHl_setFlags_leaves :
    ((s.setHl v).setFlags fl).hl = v ∧ ((s.setHl v).setFlags fl).regs.f = flagByte fl.z fl.n fl.h fl.c ∧
      ((s.setHl v).setFlags fl).regs.sp = s.regs.sp ∧ ((s.setHl v).setFlags fl).regs.pc = s.regs.pc ∧
      RegFrame [.H, .L] s ((s.setHl v).setFlags fl) :=
  ⟨hl_setHl s v, setFlags_f _ fl, rfl, rfl, regFrame_setHl_setFlags s v fl⟩

theorem exec_incPair : exec (.incPair p) s = .next (s.setPair p (s.pair p + 1)) := by cases p <;> rfl
theorem exec_decPair : exec (.decPair p) s = .next (s.setPair p (s.pair p - 1)) := by cases p <;> rfl
theorem exec_addHL : exec (.addHL p) s = .next (addToHl p s) := by cases p <;> rfl

theorem encode_incPair : encode (.incPair p) = [0#2 ++ pairCode p ++ 3#4] := by cases p <;> rfl
theorem encode_decPair : encode (.decPair p) = [0#2 ++ pairCode p ++ 11#4] := by cases p <;> rfl
theorem encode_addHL : encode (.addHL p) = [0#2 ++ pairCode p ++ 9#4] := by cases p <;> rfl

theorem instrCycles_incPair : instrCycles (.incPair p) s = 8 := by cases p <;> rfl
theorem instrCycles_decPair : instrCycles (.decPair p) s = 8 := by cases p <;> rfl
theorem instrCycles_addHL : instrCycles (.addHL p) s = 8 := by cases p <;> rfl

end

/-- Settles O28: each is a write of the pair, and no flag is among what that writes. -/
theorem incrementDecrementPair : Obligations.IncrementDecrementPair := by
  unfold Obligations.IncrementDecrementPair
  intro p s
  have successor : (s.pair p + 1).toNat = ((s.pair p).toNat + 1) % 65536 := BitVec.toNat_add _ 1
  have predecessor : (s.pair p - 1).toNat = ((s.pair p).toNat + 65535) % 65536 := by
    rw [BitVec.toNat_sub, Nat.add_comm]
    rfl
  obtain ⟨incremented, incRest⟩ := setPair_leaves p (s.pair p + 1) s
  obtain ⟨decremented, decRest⟩ := setPair_leaves p (s.pair p - 1) s
  exact ⟨⟨encode_incPair p, instrCycles_incPair p s, _, exec_incPair p s,
      (congrArg BitVec.toNat incremented).trans successor, incRest⟩,
    encode_decPair p, instrCycles_decPair p s, _, exec_decPair p s,
    (congrArg BitVec.toNat decremented).trans predecessor, decRest⟩

/-- Settles O29: `HL` and the flags are written with `Add16`, which keeps `Z`. -/
theorem addPairToHL : Obligations.AddPairToHL := by
  unfold Obligations.AddPairToHL
  intro p s a b
  obtain ⟨sum, flags⟩ := add16_spec s.hl (s.pair p) s.flags
  obtain ⟨inHl, rest⟩ := setHl_setFlags_leaves (add16 s.hl (s.pair p) s.flags).1 _ s
  have meaning := exec_addHL p s
  rw [addToHl, flags] at meaning
  exact ⟨encode_addHL p, instrCycles_addHL p s, _, meaning, (congrArg BitVec.toNat inHl).trans sum, rest⟩

end Sys2Proof.Machine
end

section
/-! PROOFS. Rotates, shifts and bit operations (rules R230 to R261): the bytes and the cost of an instruction of the
extended table, `rot[y]` as arithmetic, and what each operation leaves. -/

namespace Sys2Proof.Machine

/-! ### The bytes and the cost of the extended instructions (rules R103, R111, R113) -/

section
variable (x : BitVec 2) (y z : BitVec 3)

@[simp] theorem fieldX_append : fieldX (x ++ y ++ z) = x := by decide +revert
@[simp] theorem fieldY_append : fieldY (x ++ y ++ z) = y := by decide +revert
@[simp] theorem fieldZ_append : fieldZ (x ++ y ++ z) = z := by decide +revert

end

@[simp] theorem operandOf_regCode (r : Reg8) : operandOf (regCode r) = some r := by cases r <;> rfl
@[simp] theorem rotOf_rotCode (op : RotOp) : rotOf (rotCode op) = op := by cases op <;> rfl
@[simp] theorem octOf_octCode (b : Oct) : octOf (octCode b) = b := by cases b <;> rfl

section
variable (op : RotOp) (b : Oct) (r : Reg8)

theorem decodeExt_rot : decodeExt (0#2 ++ rotCode op ++ regCode r) = .rot op r := by simp [decodeExt]
theorem decodeExt_rotHL : decodeExt (0#2 ++ rotCode op ++ 6#3) = .rotHL op := by simp [decodeExt, operandOf]
theorem decodeExt_bit : decodeExt (1#2 ++ octCode b ++ regCode r) = .bit b r := by simp [decodeExt]
theorem decodeExt_bitHL : decodeExt (1#2 ++ octCode b ++ 6#3) = .bitHL b := by simp [decodeExt, operandOf]
theorem decodeExt_res : decodeExt (2#2 ++ octCode b ++ regCode r) = .res b r := by simp [decodeExt]
theorem decodeExt_resHL : decodeExt (2#2 ++ octCode b ++ 6#3) = .resHL b := by simp [decodeExt, operandOf]
theorem decodeExt_set : decodeExt (3#2 ++ octCode b ++ regCode r) = .set b r := by simp [decodeExt]
theorem decodeExt_setHL : decodeExt (3#2 ++ octCode b ++ 6#3) = .setHL b := by simp [decodeExt, operandOf]

end

section
variable {i : Instr} {x : BitVec 2} {y : BitVec 3} (s : State)

theorem instrCycles_decodeExt (op2 : Byte) : instrCycles (decodeExt op2) s = extendedCost op2 := by
  rw [instrCycles, encode_decodeExt]
  rfl

/-- An extended instruction on a register: its two bytes, and 8 cycles. -/
theorem extended_onRegister {r : Reg8} (h : decodeExt (x ++ y ++ regCode r) = i) :
    encode i = [0xCB, x ++ y ++ regCode r] ∧ instrCycles i s = 8 := by
  subst h
  refine ⟨encode_decodeExt _, (instrCycles_decodeExt s _).trans ?_⟩
  rw [extendedCost, fieldZ_append, operandOf_regCode]

/-- An extended instruction on the byte at `HL`: its two bytes, and 16 cycles, 12 for `BIT`, which writes no byte. -/
theorem extended_onMemory (h : decodeExt (x ++ y ++ 6#3) = i) :
    encode i = [0xCB, x ++ y ++ 6#3] ∧ instrCycles i s = if x = 1 then 12 else 16 := by
  subst h
  refine ⟨encode_decodeExt _, (instrCycles_decodeExt s _).trans ?_⟩
  rw [extendedCost, fieldZ_append, fieldX_append]
  rfl

end

/-! ### The rotates and shifts (rules R230 to R255) -/

theorem toNat_append_eq {m n : Nat} (a : BitVec m) (b : BitVec n) : (a ++ b).toNat = a.toNat * 2 ^ n + b.toNat := by
  rw [BitVec.toNat_append, Nat.shiftLeft_eq, Nat.mul_comm, Nat.two_pow_add_eq_or_of_lt b.isLt]

/-- The eight functions `rot[y]` as arithmetic: the parts of the byte are its quotients and remainders by powers of two,
and the top bit, which `omega` must be told, is the quotient by 128. -/
theorem rotateSpec_eq (op : RotOp) (v : Byte) (c : Bool) :
    rotateSpec op v.toNat c.toNat = ((rotate op v c).1.toNat, (rotate op v c).2) := by
  have top : v.toNat / 128 = 0 ∨ v.toNat / 128 = 1 := by
    have := v.isLt
    omega
  have hc := Bool.toNat_lt c
  cases op <;>
    simp only [rotateSpec, rotate, toNat_append_eq, BitVec.extractLsb'_toNat, Nat.shiftRight_eq_div_pow,
      BitVec.toNat_ofBool, BitVec.toNat_zero, getLsbD_eq_decide, Nat.reducePow, Prod.mk.injEq,
      decide_eq_decide, and_true] <;>
    omega

/-- An accumulator rotate leaves the result in `A`, and of the flags the carry out alone (rules R231 to R234). -/
theorem rotAcc_leaves (op : RotOp) (s : State) :
    (rotAcc op s).regs.a.toNat = (rotate op s.regs.a s.carry).1.toNat ∧
      (rotAcc op s).regs.f = flagByte false false false (rotate op s.regs.a s.carry).2 ∧
      (rotAcc op s).regs.sp = s.regs.sp ∧ (rotAcc op s).regs.pc = s.regs.pc ∧ RegFrame [.A] s (rotAcc op s) := by
  let r := rotate op s.regs.a s.carry
  obtain ⟨inA, rest⟩ := setReg_setFlags_leaves s .A r.1 (rotAccFlags r)
  exact ⟨congrArg BitVec.toNat inA, rest⟩

/-- Settles O30: each is `rot[y]` of `A`, with the flags of an accumulator rotate. -/
theorem accumulatorRotates : Obligations.AccumulatorRotates := by
  unfold Obligations.AccumulatorRotates
  intro s
  simp only [List.forall_mem_cons, rotateSpec_eq]
  exact ⟨⟨rfl, rfl, _, rfl, rotAcc_leaves .RLC s⟩, ⟨rfl, rfl, _, rfl, rotAcc_leaves .RRC s⟩,
    ⟨rfl, rfl, _, rfl, rotAcc_leaves .RL s⟩, ⟨rfl, rfl, _, rfl, rotAcc_leaves .RR s⟩, List.forall_mem_nil _⟩

/-- Settles O31: the result of `rot[y]` and its flags are written. -/
theorem rotateRegister : Obligations.RotateRegister := by
  unfold Obligations.RotateRegister
  intro op x s
  obtain ⟨bytes, cost⟩ := extended_onRegister s (decodeExt_rot op x)
  let r := rotate op (s.reg x) s.carry
  obtain ⟨inX, rest⟩ := setReg_setFlags_leaves s x r.1 (rotFlags r)
  simp only [rotateSpec_eq, ← beq_zero_eq_decide]
  exact ⟨bytes, cost, _, exec_rot s op x, congrArg BitVec.toNat inX, rest⟩

/-- Settles O32: the flags are written, and then the byte is stored. -/
theorem rotateMemory : Obligations.RotateMemory := by
  unfold Obligations.RotateMemory
  intro op s
  obtain ⟨bytes, cost⟩ := extended_onMemory s (decodeExt_rotHL op)
  simp only [rotateSpec_eq, ← beq_zero_eq_decide, BitVec.ofNat_toNat, BitVec.setWidth_eq]
  exact ⟨bytes, cost, _, exec_rotHL s op, stored_writeHL_setFlags s _ _ _ _ _⟩

/-! ### `BIT`, `RES` and `SET` (rules R256 to R261) -/

/-- Settles O33: the flags alone are written, `Z` from the tested bit. -/
theorem bitTest : Obligations.BitTest := by
  unfold Obligations.BitTest
  intro b x s
  obtain ⟨bytes, cost⟩ := extended_onRegister s (decodeExt_bit b x)
  obtain ⟨bytesHL, costHL⟩ := extended_onMemory s (decodeExt_bitHL b)
  simp only [← testBit_spec]
  exact ⟨⟨bytes, cost, _, exec_bit s b x, setFlags_leaves s _⟩,
    bytesHL, costHL, _, exec_bitHL s b, setFlags_leaves s _⟩

theorem withBit_resetBit (v : Byte) (b : Oct) : withBit v b false (resetBit b v) := fun _ => resetBit_spec b v

theorem withBit_setBit (v : Byte) (b : Oct) : withBit v b true (setBit b v) := fun _ => setBit_spec b v

/-- A write of one bit of a register leaves it there, and nothing else. -/
theorem setReg_loads_withBit {s : State} {r : Reg8} {b : Oct} {v : Bool} {w : Byte} (h : withBit (s.reg r) b v w) :
    withBit (s.reg r) b v ((s.setReg r w).reg r) ∧ KeepsFSpPc s (s.setReg r w) ∧ RegFrame [r] s (s.setReg r w) := by
  obtain ⟨inR, rest⟩ := setReg_loads s r w
  exact ⟨inR.symm ▸ h, rest⟩

/-- Settles O34: each is a write of the register or a store at `HL`, of the byte with the one bit changed. -/
theorem resetAndSetBit : Obligations.ResetAndSetBit := by
  unfold Obligations.ResetAndSetBit
  intro b x s
  obtain ⟨resBytes, resCost⟩ := extended_onRegister s (decodeExt_res b x)
  obtain ⟨setBytes, setCost⟩ := extended_onRegister s (decodeExt_set b x)
  obtain ⟨resBytesHL, resCostHL⟩ := extended_onMemory s (decodeExt_resHL b)
  obtain ⟨setBytesHL, setCostHL⟩ := extended_onMemory s (decodeExt_setHL b)
  exact ⟨⟨resBytes, resCost, _, exec_res s b x, setReg_loads_withBit (withBit_resetBit _ b)⟩,
    ⟨setBytes, setCost, _, exec_set s b x, setReg_loads_withBit (withBit_setBit _ b)⟩,
    ⟨resBytesHL, resCostHL, _, _, exec_resHL s b, withBit_resetBit _ b, stored_write8 s s.hl _⟩,
    setBytesHL, setCostHL, _, _, exec_setHL s b, withBit_setBit _ b, stored_write8 s s.hl _⟩

end Sys2Proof.Machine
end

section
/-! PROOFS. Control transfer (rules R270 to R280): the target of a relative jump, what a jump, a call and a return do to
the state, taken and not taken, and the bytes, the cost and the meaning of each instruction. -/

namespace Sys2Proof.Machine

/-! ### What a jump, a call and a return do -/

section
variable (cc : Cond) (a : Word) (s : State)

/-- A relative target is the signed sum, modulo 65536 (rule R273). -/
theorem relTarget_eq (e : Byte) : s.relTarget e = BitVec.ofInt 16 ((s.regs.pc.toNat : Int) + e.toInt) := by
  rw [BitVec.ofInt_add, BitVec.ofInt_natCast, BitVec.ofNat_toNat, BitVec.setWidth_eq]
  rfl

/-- A conditional jump writes `PC` with the target, or with what it held. -/
theorem jumpIf_eq :
    jumpIf cc a s = { s with regs := { s.regs with pc := if condHolds s.regs.f cc then a else s.regs.pc } } := by
  rw [jumpIf, condHolds_eq_cond]
  cases s.cond cc <;> rfl

/-- An instruction that means a call pushes `PC`, and then writes it. -/
theorem pushes_of_exec_call {i : Instr} (h : exec i s = .next (call a s)) :
    ∃ t, Pushed s.regs.pc s t ∧ exec i s = .next { t with regs := { t.regs with pc := a } } :=
  ⟨push16 s.regs.pc s, pushed_push16 _ s, h⟩

/-- A return writes `SP` and `PC`. -/
theorem ret_eq : ret s = { s with regs := { s.regs with sp := s.regs.sp + 2, pc := s.stackTop } } := rfl

/-- A conditional return writes `SP` and `PC`, or nothing. -/
theorem retIf_eq :
    (if s.cond cc then ret s else s) =
      { s with
        regs := if condHolds s.regs.f cc then { s.regs with sp := s.regs.sp + 2, pc := s.stackTop } else s.regs } := by
  rw [condHolds_eq_cond]
  cases s.cond cc <;> rfl

end

/-! ### The instructions -/

section
variable (cc : Cond) (nn : Word) (e : Byte) (y : Oct) (s : State)

theorem exec_jpCond : exec (.jpCond cc nn) s = .next (jumpIf cc nn s) := by cases cc <;> rfl
theorem exec_jrCond : exec (.jrCond cc e) s = .next (jumpIf cc (s.relTarget e) s) := by cases cc <;> rfl
theorem exec_callCond : exec (.callCond cc nn) s = .next (if s.cond cc then call nn s else s) := by cases cc <;> rfl
theorem exec_callCond_taken (h : condHolds s.regs.f cc = true) : exec (.callCond cc nn) s = .next (call nn s) := by
  rw [exec_callCond, ← condHolds_eq_cond, if_pos h]
theorem exec_callCond_not_taken (h : condHolds s.regs.f cc = false) : exec (.callCond cc nn) s = .next s := by
  rw [exec_callCond, ← condHolds_eq_cond, if_neg (Bool.eq_false_iff.1 h)]
theorem exec_retCond : exec (.retCond cc) s = .next (if s.cond cc then ret s else s) := by cases cc <;> rfl
theorem exec_rst : exec (.rst y) s = .next (call (BitVec.ofNat 16 (y.toNat * 8)) s) := by cases y <;> rfl

theorem encode_jpCond :
    encode (.jpCond cc nn) = [3#2 ++ 0#1 ++ condCode cc ++ 2#3, nn.extractLsb' 0 8, nn.extractLsb' 8 8] := by
  cases cc <;> rfl
theorem encode_jrCond : encode (.jrCond cc e) = [0#2 ++ 1#1 ++ condCode cc ++ 0#3, e] := by cases cc <;> rfl
theorem encode_callCond :
    encode (.callCond cc nn) = [3#2 ++ 0#1 ++ condCode cc ++ 4#3, nn.extractLsb' 0 8, nn.extractLsb' 8 8] := by
  cases cc <;> rfl
theorem encode_retCond : encode (.retCond cc) = [3#2 ++ 0#1 ++ condCode cc ++ 0#3] := by cases cc <;> rfl
theorem encode_rst : encode (.rst y) = [3#2 ++ octCode y ++ 7#3] := by cases y <;> rfl

theorem instrCycles_jpCond : instrCycles (.jpCond cc nn) s = if condHolds s.regs.f cc then 16 else 12 := by
  cases cc <;> rfl
theorem instrCycles_jrCond : instrCycles (.jrCond cc e) s = if condHolds s.regs.f cc then 12 else 8 := by
  cases cc <;> rfl
theorem instrCycles_callCond : instrCycles (.callCond cc nn) s = if condHolds s.regs.f cc then 24 else 12 := by
  cases cc <;> rfl
theorem instrCycles_retCond : instrCycles (.retCond cc) s = if condHolds s.regs.f cc then 20 else 8 := by
  cases cc <;> rfl
theorem instrCycles_rst : instrCycles (.rst y) s = 16 := by cases y <;> rfl

end

/-- Settles O36: a call taken and a restart are the one push of `PC` and write of `PC`; a call not taken is nothing. -/
theorem callsAndRestarts : Obligations.CallsAndRestarts := by
  unfold Obligations.CallsAndRestarts
  intro cc nn y s
  exact ⟨⟨rfl, rfl, pushes_of_exec_call nn s rfl⟩,
    ⟨encode_callCond cc nn, instrCycles_callCond cc nn s,
      fun taken => pushes_of_exec_call nn s (exec_callCond_taken cc nn s taken), exec_callCond_not_taken cc nn s⟩,
    encode_rst y, instrCycles_rst y s, pushes_of_exec_call _ s (exec_rst y s)⟩

/-- Settles O35: each is a write of `PC`, with the target or, where the condition is false, with what it held. -/
theorem jumps : Obligations.Jumps := by
  unfold Obligations.Jumps
  intro cc nn e s taken rel
  have target : s.relTarget e = rel := relTarget_eq s e
  have jp := exec_jpCond cc nn s
  have jr : exec (.jr_e e) s = .next (s.setPc (s.relTarget e)) := rfl
  have jrCond := exec_jrCond cc e s
  rw [jumpIf_eq] at jp
  rw [target] at jr
  rw [target, jumpIf_eq] at jrCond
  exact ⟨⟨rfl, rfl, rfl⟩, ⟨encode_jpCond cc nn, instrCycles_jpCond cc nn s, jp⟩, ⟨rfl, rfl, rfl⟩, ⟨rfl, rfl, jr⟩,
    encode_jrCond cc e, instrCycles_jrCond cc e s, jrCond⟩

/-- Settles O37: each is the one return, taken or not; `RETI` also sets `IME`. -/
theorem returns : Obligations.Returns := by
  unfold Obligations.Returns
  intro cc s back
  have taken : exec .ret s = .next (ret s) := rfl
  have conditional := exec_retCond cc s
  have fromInterrupt : exec .reti s = .next ((ret s).setIme true) := rfl
  rw [ret_eq] at taken fromInterrupt
  rw [retIf_eq] at conditional
  exact ⟨⟨rfl, rfl, taken⟩, ⟨encode_retCond cc, instrCycles_retCond cc s, conditional⟩, rfl, rfl, fromInterrupt⟩

end Sys2Proof.Machine
end

section
/-! PROOFS. The system instructions (rules R290 to R294): what each does, that the steps of `EI` and `DI` dispatch nothing
(rules R301, R309), and that a halted machine with no source enabled hangs (rules R291, R331). -/

namespace Sys2Proof.Machine

/-- Settles O38: each computes, its bytes, its cost and its writes of the gates or the run state. -/
theorem systemInstructions : Obligations.SystemInstructions := by
  unfold Obligations.SystemInstructions
  exact fun n s => ⟨⟨rfl, rfl, rfl⟩, ⟨rfl, rfl, rfl⟩, ⟨rfl, rfl, rfl⟩, ⟨rfl, rfl, rfl⟩, rfl, rfl, rfl⟩

/-! ### A servicing phase that dispatches nothing -/

/-- While `IME` is clear nothing is dispatched (rule R301). -/
theorem dispatches_of_ime_clear {s : State} (h : s.irq.ime = false) : s.dispatches = false := by
  simp [State.dispatches, h]

/-- On a running machine there is nothing to wake, so servicing that dispatches nothing only ends the enable latency (rules
R301, R308, R309). -/
theorem serviceInterrupts_of_running {s : State} (hr : s.run = .running) (hd : s.dispatches = false) :
    serviceInterrupts s = s.setImePending false := by
  simp [serviceInterrupts, wake, hd, hr]

/-! ### `EI` and `DI` (rules R293, R294, R410) -/

theorem fetchInstr_ei {s : State} (hf : fetchByte 0 s = 0xFB) : fetchInstr s = .ei := by
  rw [fetchInstr, hf]
  rfl

theorem fetchInstr_di {s : State} (hf : fetchByte 0 s = 0xF3) : fetchInstr s = .di := by
  rw [fetchInstr, hf]
  rfl

theorem afterFetch_of_one_byte {s : State} {op : Byte} (hf : fetchByte 0 s = op) (h : instrLength op = 1) :
    afterFetch s = s.setPc (s.regs.pc + 1) := by
  rw [afterFetch, hf, h]
  rfl

/-- The step of a one-byte instruction that leaves the machine running with nothing to dispatch ends with what the
instruction made of the CPU, and the enable latency over. -/
theorem step_of_one_byte_undispatched {s t : State} {op : Byte} {i : Instr} (hr : s.run = .running)
    (hf : fetchByte 0 (beginStep s) = op) (hlen : instrLength op = 1) (hi : fetchInstr (beginStep s) = i)
    (he : exec i ((beginStep s).setPc (s.regs.pc + 1)) = .next t) (running : t.run = .running)
    (undispatched : t.dispatches = false) :
    ∃ u, step s = .next u ∧ CpuSame (t.setImePending false) u := by
  have he' : exec (fetchInstr (beginStep s)) (afterFetch (beginStep s)) = .next t := by
    rw [hi, afterFetch_of_one_byte hf hlen]
    exact he
  refine ⟨_, step_of_running hr he', ?_⟩
  simp only [afterExec, running, finishStep, serviceInterrupts_of_running running undispatched]
  exact cpuSame_broadcast _ _

/-- Settles O46: after `EI` the latency holds a dispatch back, after `DI` the clear `IME` does. -/
theorem enableLatencyIsOneInstruction : Obligations.EnableLatencyIsOneInstruction := by
  unfold Obligations.EnableLatencyIsOneInstruction
  intro s hr s₀
  rw [← fetchByte_zero s₀]
  constructor
  case left =>
    intro hf
    obtain ⟨u, hu, cpu⟩ := step_of_one_byte_undispatched hr hf rfl (fetchInstr_ei hf) rfl hr (dispatches_of_pending rfl)
    exact ⟨u, hu, cpu.regs, cpu.ime, cpu.imePending, cpu.run.trans hr⟩
  case right =>
    intro hf
    obtain ⟨u, hu, cpu⟩ := step_of_one_byte_undispatched hr hf rfl (fetchInstr_di hf) rfl hr (dispatches_of_ime_clear rfl)
    exact ⟨u, hu, cpu.regs, cpu.ime, cpu.imePending, cpu.run.trans hr⟩

/-! ### `HALT` with no source enabled (rules R291, R331) -/

/-- A source that is not enabled is not pending (rule R304). -/
theorem serviceGuard_of_ie_zero {s : State} (h : s.irq.ie = 0) : s.serviceGuard = false := by
  simp [serviceGuard_eq, State.pending, h]

/-- One step of the hang: nothing is serviced, and the broadcast leaves the CPU and `IE` alone. -/
theorem step_of_halted_ie_zero {s : State} (hr : s.run = .halted) (hie : s.irq.ie = 0) :
    ∃ t, step s = .next t ∧ t.run = .halted ∧ t.irq.ie = 0 ∧ t.regs = s.regs := by
  have guard : (beginStep s).serviceGuard = false := serviceGuard_of_ie_zero hie
  refine ⟨_, step_of_halted hr, ?_⟩
  rw [finishStep, (serviceInterrupts_of_guard_false guard).1]
  have cpu := cpuSame_broadcast (s.params.timing.haltStepCycles + serviceCycles (beginStep s))
    ((beginStep s).setImePending false)
  exact ⟨cpu.run.trans hr, (broadcast_ie _ _).trans hie, cpu.regs⟩

/-- Settles O47, by induction on the number of steps. -/
theorem haltWithoutEnabledSourceHangs : Obligations.HaltWithoutEnabledSourceHangs := by
  unfold Obligations.HaltWithoutEnabledSourceHangs
  intro n
  induction n with
  | zero => exact fun s hr hie => ⟨s, rfl, hr, hie, rfl⟩
  | succ n ih =>
    intro s hr hie
    obtain ⟨t, ht, htr, htie, htregs⟩ := step_of_halted_ie_zero hr hie
    obtain ⟨u, hu, hur, huie, huregs⟩ := ih t htr htie
    exact ⟨u, (run_next ht).trans hu, hur, huie, huregs.trans htregs⟩

end Sys2Proof.Machine
end

section
/-! PROOFS. The servicing phase (rules R301 to R309): when a dispatch happens, what waking and a dispatch leave. -/

namespace Sys2Proof.Machine

/-- Where a source is pending the guard passes (rule R304). -/
theorem serviceGuard_of_pending {s : State} (h : s.pending ≠ 0) : s.serviceGuard = true := by
  rw [serviceGuard_eq, bne_iff_ne]
  exact h

theorem pending_getLsbD (s : State) (j : Nat) :
    s.pending.getLsbD j = (s.irq.ie.getLsbD j && s.irq.flag.getLsbD j) := BitVec.getLsbD_and

theorem pending_ne_zero {s : State} {i : Nat} (h : s.pending.getLsbD i = true) : s.pending ≠ 0 := by
  intro hz
  simp [hz] at h

/-- `RUN` after waking (rule R308). -/
theorem wake_eq (s : State) : wake s = { s with run := if s.run = .halted then .running else s.run } := by
  unfold wake
  split_ifs <;> rfl

/-- Servicing without a dispatch while a source is pending: the machine wakes (rules R301, R308, R309). -/
theorem serviceInterrupts_undispatched {s : State} (guard : s.serviceGuard = true) (hd : s.dispatches = false) :
    serviceInterrupts s = (wake s).setImePending false ∧ serviceCycles s = 0 := by
  simp [serviceInterrupts, serviceCycles, guard, hd]

/-- Servicing with a dispatch of the first pending source (rules R301, R306, R307, R308, R309). -/
theorem serviceInterrupts_dispatched {s : State} (hd : s.dispatches = true) :
    serviceInterrupts s = (wake (dispatch s.firstSource s)).setImePending false ∧
      serviceCycles s = s.params.intDispatchCycles := by
  have guard : s.serviceGuard = true := by
    simp only [State.dispatches, Bool.and_eq_true] at hd
    obtain ⟨⟨guard, -⟩, -⟩ := hd
    exact guard
  simp [serviceInterrupts, serviceCycles, guard, hd]

/-- Of `IF` a dispatch clears the bit of its source and no other (rule R307). -/
theorem clearSource_getLsbD {i j : Nat} (hj : j < 5) (flag : BitVec 5) :
    (flag &&& ~~~sourceBit i).getLsbD j = (flag.getLsbD j && decide (j ≠ i)) := by
  have bit : (sourceBit i).getLsbD j = decide (j = i) := by
    unfold sourceBit
    rw [BitVec.getLsbD_shiftLeft, BitVec.getLsbD_one, Bool.eq_iff_iff]
    simp only [hj, decide_true, Bool.true_and, Bool.and_eq_true, Bool.not_eq_true', decide_eq_false_iff_not,
      decide_eq_true_eq]
    omega
  rw [BitVec.getLsbD_and, BitVec.getLsbD_not, bit]
  simp [hj]

theorem vectorOf_eq (i : Nat) : vectorOf i = BitVec.ofNat 16 (0x40 + 8 * i) := (BitVec.ofNat_add ..).symm

/-- Settles O45: the guard is that a source is pending, and the dispatch is a push of `PC` and a write of it. -/
theorem interruptServicing : Obligations.InterruptServicing := by
  unfold Obligations.InterruptServicing
  intro s
  refine ⟨?nothing, ?masked, ?dispatched⟩
  case nothing =>
    intro h
    exact serviceInterrupts_of_guard_false (by rw [serviceGuard_eq, State.pending, h]; rfl)
  case masked =>
    intro h gate
    have hd : s.dispatches = false := gate.elim dispatches_of_ime_clear dispatches_of_pending
    obtain ⟨hs, hc⟩ := serviceInterrupts_undispatched (serviceGuard_of_pending h) hd
    refine ⟨?_, hc⟩
    rw [hs, wake_eq]
    rfl
  case dispatched =>
    intro i hi enabled requested first ime latency
    have here : s.pending.getLsbD i = true := by rw [pending_getLsbD, enabled, requested]; rfl
    have source : s.firstSource = i := firstSource_eq hi here fun j hj => (pending_getLsbD s j).trans (first j hj)
    have hd : s.dispatches = true := by
      rw [State.dispatches, serviceGuard_of_pending (pending_ne_zero here), ime, latency]
      rfl
    obtain ⟨hs, hc⟩ := serviceInterrupts_dispatched hd
    refine ⟨_, push16 s.regs.pc ((s.clearRequest i).setIme false), fun j hj => clearSource_getLsbD hj _,
      pushed_push16 _ _, ?_, hc⟩
    have run : (dispatch i s).run = s.run := (push16_cpu _ _).run
    rw [hs, source, wake_eq, run, ← vectorOf_eq]
    rfl

end Sys2Proof.Machine
end

section
/-! PROOFS. What the host does between steps (rules R330, R400). -/

namespace Sys2Proof.Machine

/-- A request keeps the invariant (rules R16, R330). -/
theorem Inv.request {s : State} (h : Inv s) (i : Nat) : Inv (s.request i) := ⟨h.core.request i, h.notPending⟩

/-- Settles O60: the requests and the reset compute, and the restore is its one condition. -/
theorem hostActions : Obligations.HostActions := by
  unfold Obligations.HostActions
  intro s snap
  refine ⟨rfl, rfl, fun hp hc => if_pos ⟨hp, hc⟩, fun differs => if_neg ?_, rfl, rfl, rfl, rfl,
    fun h => ⟨h.request 4, h.request 3⟩⟩
  rintro ⟨hp, hc⟩
  exact differs.elim (fun h => h hp) fun h => Bool.false_ne_true (h.symm.trans hc)

end Sys2Proof.Machine
end

section
/-! PROOFS. The timer (rules R341 to R345): that a time does what its parts do one after the other, and the counts. -/

namespace Sys2Proof.Machine

/-! ### The accumulation policy (rule R341) -/

/-- The whole periods of `x + n` are those of `x` and then those of the remainder with `n`; also for a period of 0. -/
theorem add_div_eq_div_add_rest (x n p : Nat) : (x + n) / p = x / p + (x % p + n) / p := by
  rcases Nat.eq_zero_or_pos p with rfl | hp
  · simp
  · rw [← Nat.mul_add_div hp (x / p), ← Nat.add_assoc, Nat.div_add_mod]

section
variable {s : State} {x y : Nat} {d : Byte}

@[simp] theorem withDivider_params : (withDivider x y d s).params = s.params := rfl
@[simp] theorem withDivider_timer :
    (withDivider x y d s).timer = { s.timer with timaAcc := x, divAcc := y, div := d } := rfl

theorem withDivider_withDivider (x' y' : Nat) (d' : Byte) :
    withDivider x' y' d' (withDivider x y d s) = withDivider x' y' d' s := rfl

@[simp] theorem timaTicks_params (n : Nat) : (timaTicks n s).params = s.params := (cpuSame_timaTicks n s).params
@[simp] theorem timaTicks_tma (n : Nat) : (timaTicks n s).timer.tma = s.timer.tma := by rw [timaTicks_frame]
@[simp] theorem timaTicks_tac (n : Nat) : (timaTicks n s).timer.tac = s.timer.tac := by rw [timaTicks_frame]

end

/-- A timer step with the counter disabled is the divider's (rule R343). -/
theorem timerStep_of_disabled (n : Nat) {s : State} (off : s.timer.tac.getLsbD 2 = false) :
    timerStep n s =
      withDivider s.timer.timaAcc ((s.timer.divAcc + n) % s.params.timing.divPeriod)
        (s.timer.div + BitVec.ofNat 8 ((s.timer.divAcc + n) / s.params.timing.divPeriod)) s := by
  rw [timerStep_eq]
  simp only [off, Bool.false_eq_true, if_false]

/-- A timer step with the counter enabled makes a tick for each whole period (rules R341, R343). -/
theorem timerStep_of_enabled (n : Nat) {s : State} {period : Nat} (on : s.timer.tac.getLsbD 2 = true)
    (hp : timaPeriod s.params.timing (s.timer.tac.extractLsb' 0 2) = period) :
    timerStep n s =
      withDivider ((s.timer.timaAcc + n) % period) ((s.timer.divAcc + n) % s.params.timing.divPeriod)
        (s.timer.div + BitVec.ofNat 8 ((s.timer.divAcc + n) / s.params.timing.divPeriod))
        (timaTicks ((s.timer.timaAcc + n) / period) s) := by
  rw [timerStep_eq]
  simp only [on, if_true, hp]

/-- The divider counts whether the counter is enabled or not (rule R342). -/
theorem timerStep_divider (n : Nat) (s : State) :
    (timerStep n s).timer.divAcc = (s.timer.divAcc + n) % s.params.timing.divPeriod ∧
      (timerStep n s).timer.div = s.timer.div + BitVec.ofNat 8 ((s.timer.divAcc + n) / s.params.timing.divPeriod) := by
  rw [timerStep_eq]
  simp only
  split_ifs
  · exact ⟨rfl, rfl⟩
  · exact ⟨rfl, rfl⟩

/-- A timer step changes the timer's counters and the requests only, of which `TMA` and `TAC` are none. -/
theorem timerStep_frame (n : Nat) (s : State) :
    timerStep n s = { s with irq := { s.irq with flag := (timerStep n s).irq.flag },
                             timer := { (timerStep n s).timer with tma := s.timer.tma, tac := s.timer.tac } } := by
  cases h : s.timer.tac.getLsbD 2 with
  | false => rw [timerStep_of_disabled n h]; rfl
  | true =>
    rw [timerStep_of_enabled n h rfl]
    have frame := timaTicks_frame ((s.timer.timaAcc + n) / timaPeriod s.params.timing (s.timer.tac.extractLsb' 0 2)) s
    generalize timaTicks _ s = u at frame ⊢
    rw [frame]
    rfl

/-- Settles O49: in closed form the divider and the counter take whole periods out and keep the rest. -/
theorem timerTimeIsAdditive : Obligations.TimerTimeIsAdditive := by
  unfold Obligations.TimerTimeIsAdditive
  intro m n s
  have rest (x p : Nat) : (x + (m + n)) % p = ((x + m) % p + n) % p := by rw [Nat.mod_add_mod, Nat.add_assoc]
  have periods (x p : Nat) : (x + (m + n)) / p = (x + m) / p + ((x + m) % p + n) / p := by
    rw [← add_div_eq_div_add_rest, Nat.add_assoc]
  have divider (x p : Nat) (d : Byte) : d + BitVec.ofNat 8 ((x + (m + n)) / p) =
      d + BitVec.ofNat 8 ((x + m) / p) + BitVec.ofNat 8 (((x + m) % p + n) / p) := by
    rw [BitVec.add_assoc, ← BitVec.ofNat_add, periods]
  cases h : s.timer.tac.getLsbD 2 with
  | false =>
    have off (x y : Nat) (d : Byte) : (withDivider x y d s).timer.tac.getLsbD 2 = false := h
    rw [timerStep_of_disabled (m + n) h, timerStep_of_disabled m h, timerStep_of_disabled n (off ..), divider, rest]
    rfl
  | true =>
    have on (x y k : Nat) (d : Byte) : (withDivider x y d (timaTicks k s)).timer.tac.getLsbD 2 = true := by
      rw [withDivider_timer, timaTicks_tac, h]
    rw [timerStep_of_enabled (m + n) h rfl, timerStep_of_enabled m h rfl, timerStep_of_enabled n (on ..) rfl, divider,
      rest s.timer.divAcc, rest s.timer.timaAcc, periods s.timer.timaAcc, timaTicks_add]
    simp only [withDivider_timer, withDivider_params, timaTicks_tac, timaTicks_params, timaTicks_withDivider,
      withDivider_withDivider]

/-! ### The counts (rules R342 to R345) -/

/-- The rate field selects the period (rule R344). -/
theorem timaPeriod_extract (t : Timing) (tac : BitVec 3) :
    timaPeriod t (tac.extractLsb' 0 2) =
      if tac.toNat % 4 = 0 then t.timaPeriod0 else if tac.toNat % 4 = 1 then t.timaPeriod1
      else if tac.toNat % 4 = 2 then t.timaPeriod2 else t.timaPeriod3 := by
  fin_cases tac <;> rfl

/-- A count of whole periods that wraps at 256, with the rest below it, is a time modulo 256 periods. -/
theorem wrappedPeriods_add_rest (p x : Nat) (d : Byte) :
    p * (d + BitVec.ofNat 8 (x / p)).toNat + x % p = (p * d.toNat + x) % (256 * p) := by
  have e : (d + BitVec.ofNat 8 (x / p)).toNat = (d.toNat + x / p) % 256 := by simp
  rcases Nat.eq_zero_or_pos p with rfl | hp
  · simp
  · rw [e, Nat.mul_comm 256, Nat.mod_mul, Nat.mul_add_mod, Nat.mul_add_div hp, Nat.add_comm]

/-- Ticks with one overflow: up to 255, the tick that reloads, and on from `TMA` (rule R345). -/
theorem timaTicks_overflow {n : Nat} {s : State} (h : 256 ≤ s.timer.tima.toNat + n)
    (once : s.timer.tima.toNat + n + s.timer.tma.toNat ≤ 511) :
    (timaTicks n s).timer.tima.toNat = s.timer.tma.toNat + (s.timer.tima.toNat + n - 256) ∧
      (timaTicks n s).irq = { s.irq with flag := s.irq.flag ||| 4#5 } := by
  have hlt := s.timer.tima.isLt
  obtain ⟨full, irq⟩ := timaTicks_below (255 - s.timer.tima.toNat) s (by omega)
  have tma : (timaTicks (255 - s.timer.tima.toNat) s).timer.tma = s.timer.tma := timaTicks_tma _
  have split : n = (255 - s.timer.tima.toNat) + ((s.timer.tima.toNat + n - 256) + 1) := by omega
  rw [split, timaTicks_add, ← split]
  generalize timaTicks (255 - s.timer.tima.toNat) s = u at full irq tma ⊢
  have top : u.timer.tima = 0xFF := BitVec.eq_of_toNat_eq (full.trans (by simp; omega))
  rw [timaTicks, timaTick_overflow top]
  obtain ⟨count, same⟩ := timaTicks_below (s.timer.tima.toNat + n - 256)
    ((u.setTimer { u.timer with tima := u.timer.tma }).request 2) (by simp [tma]; omega)
  rw [count, same]
  exact ⟨by simp [tma], by rw [← irq]; rfl⟩

/-- Settles O48: the divider's count by its wrapping, the counter's by the ticks it makes. -/
theorem timerCounts : Obligations.TimerCounts := by
  unfold Obligations.TimerCounts
  refine ⟨by decide, fun n s => ?_⟩
  simp only [← timaPeriod_extract]
  refine ⟨?divider, ?disabled, ?enabled, timerStep_frame n s⟩
  case divider =>
    intro h
    obtain ⟨acc, div⟩ := timerStep_divider n s
    rw [acc, div, wrappedPeriods_add_rest, Nat.add_assoc]
    exact ⟨Nat.mod_lt _ (by omega), rfl⟩
  case disabled =>
    intro off
    rw [timerStep_of_disabled n off]
    exact ⟨rfl, rfl, rfl⟩
  case enabled =>
    intro on _
    rw [timerStep_of_enabled n on rfl]
    exact ⟨rfl, timaTicks_below _ s, timaTicks_overflow⟩

end Sys2Proof.Machine
end

section
/-! PROOFS. The graphics engine over time (rules R352, R357, R362, R365 to R368): that a time does what its parts do one
after the other, a whole frame, and the writes of `LCDC`. -/

namespace Sys2Proof.Machine

/-! ### Time in parts (rule R352) -/

/-- Cycles may be added before or after a budget is taken out. -/
theorem addClock_turn (n : Nat) {s : State} (h : s.budget ≤ s.gfx.modeClock) :
    turn (addClock n s) = addClock n (turn s) := by
  have rest : s.gfx.modeClock + n - s.budget = s.gfx.modeClock - s.budget + n := Nat.sub_add_comm h
  unfold turn
  rw [← addClock_modeEnd]
  show modeEnd (s.setGfx { s.gfx with modeClock := s.gfx.modeClock + n - s.budget }) = _
  rw [rest]
  rfl

/-- The loop run before more cycles come in is made up by the loop run after. -/
theorem graphicsLoop_addClock (n : Nat) {f g : Nat} {s : State} (hp : LegalTiming s.params.timing)
    (hf : s.gfx.modeClock < f) (hg : s.gfx.modeClock + n < g) :
    graphicsLoop g (addClock n (graphicsLoop f s)) = graphicsLoop g (addClock n s) := by
  induction f generalizing s with
  | zero => exact absurd hf (Nat.not_lt_zero _)
  | succ f ih =>
    rcases Nat.lt_or_ge s.gfx.modeClock s.budget with below | full
    · rw [graphicsLoop_done _ below]
    · have smaller := turn_lt hp hf full
      have clock := turn_modeClock s
      have legal : LegalTiming (turn s).params.timing := by rw [turn_params]; exact hp
      rw [graphicsLoop_turn f full, ih legal smaller (by omega), ← addClock_turn n full]
      have full' : (addClock n s).budget ≤ (addClock n s).gfx.modeClock := full.trans (Nat.le_add_right _ n)
      rw [graphicsLoop_any (s := addClock n s) (g := g + 1) hp hg (Nat.lt_succ_of_lt hg), graphicsLoop_turn g full']

theorem graphicsStep_displayOn (n : Nat) (s : State) : (graphicsStep n s).displayOn = s.displayOn := by
  have lcdc : (graphicsStep n s).gfx.lcdc = s.gfx.lcdc := by
    unfold graphicsStep
    split_ifs
    · exact graphicsLoop_lcdc _ _
    · rfl
  rw [State.displayOn, lcdc]
  rfl

theorem graphicsStep_add (m n : Nat) {s : State} (hp : LegalTiming s.params.timing) :
    graphicsStep (m + n) s = graphicsStep n (graphicsStep m s) := by
  cases on : s.displayOn with
  | false => rw [graphicsStep_of_off _ on, graphicsStep_of_off _ on, graphicsStep_of_off _ on]
  | true =>
    have hp' : LegalTiming (graphicsStep m s).params.timing := by rw [(cpuSame_graphicsStep m s).params]; exact hp
    have on' : (graphicsStep m s).displayOn = true := by rw [graphicsStep_displayOn, on]
    have first := graphicsStep_on (f := s.gfx.modeClock + m + 1) hp on (Nat.lt_succ_self _)
    have clock : (graphicsStep m s).gfx.modeClock ≤ s.gfx.modeClock + m := by
      rw [first]
      exact graphicsLoop_modeClock_le _ (addClock m s)
    have enough : s.gfx.modeClock + m + n < s.gfx.modeClock + (m + n) + 1 := by omega
    rw [graphicsStep_on (f := s.gfx.modeClock + (m + n) + 1) hp' on' (by omega), first,
      graphicsLoop_addClock (s := addClock m s) (f := s.gfx.modeClock + m + 1) n hp (Nat.lt_succ_self _) enough,
      graphicsStep_on hp on (Nat.lt_succ_self _)]
    unfold addClock
    rw [← Nat.add_assoc]
    rfl

/-- Settles O51: the loop of the first part leaves what the loop of the whole would come to. -/
theorem graphicsTimeIsAdditive : Obligations.GraphicsTimeIsAdditive := by
  unfold Obligations.GraphicsTimeIsAdditive
  exact fun m n _ hp => graphicsStep_add m n hp

/-! ### The events of a mode's end (rules R359, R360, R362) -/

@[simp] theorem statusRequest_outputs (e : Bool) (s : State) : (statusRequest e s).outputs = s.outputs := by
  cases e <;> rfl

/-- A status request is not the vertical-blank's (rules R361, R363). -/
theorem statusRequest_vblankRequest (e : Bool) (s : State) :
    (statusRequest e s).irq.flag.getLsbD 0 = s.irq.flag.getLsbD 0 := by
  cases e with
  | false => rfl
  | true =>
    show (s.irq.flag ||| sourceBit 1).getLsbD 0 = _
    rw [BitVec.getLsbD_or, show (sourceBit 1).getLsbD 0 = false from rfl, Bool.or_false]

/-- Where a frame that began in `s` has got to: `t` is at the start of mode `m` in line `y`, after `events` horizontal-blank
events, and after the vertical-blank event if `blanked`. -/
structure FrameAt (s : State) (m : Mode) (y events : Nat) (blanked : Bool) (t : State) : Prop where
  params : t.params = s.params
  on : t.displayOn = true
  mode : t.gfx.mode = m
  line : t.gfx.ly.toNat = y
  clock : t.gfx.modeClock = 0
  frames : t.outputs.count .frame = s.outputs.count .frame + blanked.toNat
  requested : blanked = true → t.irq.flag.getLsbD 0 = true
  hblanks : t.outputs.count .hblankEvent = s.outputs.count .hblankEvent + events

section
variable {s t : State} {m m' : Mode} {y y' events events' : Nat} {blanked blanked' : Bool}

theorem FrameAt.statusRequest (h : FrameAt s m y events blanked t) (e : Bool) :
    FrameAt s m y events blanked (statusRequest e t) := by
  have cpu := cpuSame_statusRequest e t
  constructor
  case params => rw [cpu.params, h.params]
  case on => rw [State.displayOn, statusRequest_gfx]; exact h.on
  case mode => rw [statusRequest_gfx, h.mode]
  case line => rw [statusRequest_gfx, h.line]
  case clock => rw [statusRequest_gfx, h.clock]
  case frames => rw [statusRequest_outputs, h.frames]
  case requested => rw [statusRequest_vblankRequest]; exact h.requested
  case hblanks => rw [statusRequest_outputs, h.hblanks]

theorem FrameAt.dmaHBlank (h : FrameAt s m y events blanked t) : FrameAt s m y events blanked (dmaHBlank t) := by
  have cpu := cpuSame_dmaHBlank t
  constructor
  case params => rw [cpu.params, h.params]
  case on => rw [State.displayOn, dmaHBlank_gfx]; exact h.on
  case mode => rw [dmaHBlank_gfx, h.mode]
  case line => rw [dmaHBlank_gfx, h.line]
  case clock => rw [dmaHBlank_gfx, h.clock]
  case frames => rw [dmaHBlank_outputs, h.frames]
  case requested => rw [dmaHBlank_irq]; exact h.requested
  case hblanks => rw [dmaHBlank_outputs, h.hblanks]

theorem FrameAt.nextLine (h : FrameAt s m y events blanked t) (hy : y < 255) : (t.gfx.ly + 1).toNat = y + 1 := by
  rw [← h.line] at hy ⊢
  exact succ_toNat hy (by decide)

theorem FrameAt.legal (h : FrameAt s m y events blanked t) (hp : LegalTiming s.params.timing) :
    LegalTiming t.params.timing := by
  rw [h.params]
  exact hp

variable (hp : LegalTiming s.params.timing)
include hp

theorem FrameAt.zero (h : FrameAt s m y events blanked t) : FrameAt s m y events blanked (graphicsStep 0 t) := by
  have below : t.gfx.modeClock + 0 < t.budget := by
    rw [h.clock]
    exact budget_pos (h.legal hp)
  rwa [graphicsStep_of_lt (h.legal hp) h.on below]

/-- The budget of the mode ends it, and with it the frame gets to the next mode. -/
theorem FrameAt.ends (h : FrameAt s m y events blanked t) (next : FrameAt s m' y' events' blanked' (modeEnd t)) :
    FrameAt s m' y' events' blanked' (graphicsStep (m.budget s.params.timing) t) := by
  have clear : clearClock t = t := by
    unfold clearClock
    rw [← h.clock]
    rfl
  rwa [graphicsStep_of_eq (h.legal hp) h.on h.mode (by rw [h.clock, h.params, Nat.zero_add]), clear]

theorem FrameAt.oamScan (h : FrameAt s .oamScan y events blanked t) :
    FrameAt s .transfer y events blanked (graphicsStep s.params.timing.oamScanCycles t) := by
  refine h.ends hp ?_
  rw [modeEnd_of_oamScan h.mode]
  exact { h with mode := rfl }

theorem FrameAt.transfer (h : FrameAt s .transfer y events blanked t) :
    FrameAt s .hblank y (events + 1) blanked (graphicsStep s.params.timing.pixelCycles t) := by
  refine h.ends hp ?_
  rw [modeEnd_of_transfer h.mode, setMode_hblank_request]
  refine (FrameAt.statusRequest ?_ _).dmaHBlank
  exact { h with
    mode := rfl
    frames := by simp [h.frames]
    hblanks := by simp [h.hblanks, Nat.add_assoc] }

theorem FrameAt.hblank (h : FrameAt s .hblank y events blanked t) (inside : y + 1 < s.params.timing.visibleLines) :
    FrameAt s .oamScan (y + 1) events blanked (graphicsStep s.params.timing.hblankCycles t) := by
  have lines := hp.lines
  refine h.ends hp ?_
  rw [modeEnd_of_hblank h.mode, hblankExit_of_not_last (h.legal hp) (by rw [h.line, h.params]; exact inside.ne),
    setMode_oamScan_setScanline]
  refine FrameAt.statusRequest ?_ _
  exact { h with mode := rfl, line := h.nextLine (by omega) }

theorem FrameAt.lastHblank (h : FrameAt s .hblank y events false t) (last : y + 1 = s.params.timing.visibleLines) :
    FrameAt s .vblank s.params.timing.visibleLines events true (graphicsStep s.params.timing.hblankCycles t) := by
  have lines := hp.lines
  have vblankLines := hp.vblank
  refine h.ends hp ?_
  rw [modeEnd_of_hblank h.mode, hblankExit_of_last (h.legal hp) (by rw [h.line, h.params, last]),
    setMode_vblank_setScanline]
  refine FrameAt.statusRequest ?_ _
  exact { h with
    mode := rfl
    line := (h.nextLine (by omega)).trans last
    frames := by simp [h.frames]
    requested := fun _ => by simp [sourceBit]
    hblanks := by simp [h.hblanks] }

theorem FrameAt.vblank (h : FrameAt s .vblank y events blanked t)
    (inside : y + 1 < s.params.timing.visibleLines + s.params.timing.vblankLines) :
    FrameAt s .vblank (y + 1) events blanked (graphicsStep s.params.timing.lineCycles t) := by
  have lines := hp.lines
  refine h.ends hp ?_
  rw [modeEnd_of_vblank h.mode, vblankLine_of_not_last (h.legal hp) (by rw [h.line, h.params]; exact inside.ne),
    setScanline_eq]
  refine FrameAt.statusRequest ?_ _
  exact { h with line := h.nextLine (by omega) }

theorem FrameAt.lastVblank (h : FrameAt s .vblank y events blanked t)
    (last : y + 1 = s.params.timing.visibleLines + s.params.timing.vblankLines) :
    FrameAt s .oamScan 0 events blanked (graphicsStep s.params.timing.lineCycles t) := by
  refine h.ends hp ?_
  rw [modeEnd_of_vblank h.mode, vblankLine_of_last (h.legal hp) (by rw [h.line, h.params, last]),
    setMode_oamScan_setScanline]
  refine FrameAt.statusRequest ?_ _
  exact { h with mode := rfl, line := rfl }

/-! ### A whole frame (rule R357) -/

/-- The drawing of a line, up to its horizontal-blank (rules R353, R354). -/
theorem FrameAt.drawn (h : FrameAt s .oamScan y events blanked t) :
    FrameAt s .hblank y (events + 1) blanked
      (graphicsStep (s.params.timing.oamScanCycles + s.params.timing.pixelCycles) t) := by
  rw [graphicsStep_add _ _ (h.legal hp)]
  exact (h.oamScan hp).transfer hp

/-- The visible lines but the last, by induction on their number (rule R355). -/
theorem FrameAt.visibleLines (h : FrameAt s .oamScan 0 0 false t) (k : Nat) (hk : k < s.params.timing.visibleLines) :
    FrameAt s .oamScan k k false
      (graphicsStep (k *
        (s.params.timing.oamScanCycles + s.params.timing.pixelCycles + s.params.timing.hblankCycles)) t) := by
  induction k with
  | zero => rw [Nat.zero_mul]; exact h.zero hp
  | succ k ih =>
    have line := ih (by omega)
    rw [Nat.succ_mul, graphicsStep_add _ _ (h.legal hp), graphicsStep_add _ _ (line.legal hp)]
    exact (line.drawn hp).hblank hp hk

/-- All the visible lines: vertical-blank begins (rule R355). -/
theorem FrameAt.picture (h : FrameAt s .oamScan 0 0 false t) :
    FrameAt s .vblank s.params.timing.visibleLines s.params.timing.visibleLines true
      (graphicsStep (s.params.timing.visibleLines *
        (s.params.timing.oamScanCycles + s.params.timing.pixelCycles + s.params.timing.hblankCycles)) t) := by
  obtain ⟨k, hk⟩ := Nat.exists_eq_add_of_le' hp.visible
  have line := h.visibleLines hp k (by omega)
  have last := (line.drawn hp).lastHblank hp hk.symm
  rwa [← graphicsStep_add _ _ (line.legal hp), ← graphicsStep_add _ _ (h.legal hp), ← Nat.succ_mul, Nat.succ_eq_add_one,
    ← hk] at last

/-- The vertical-blank lines but the last, by induction on their number (rule R356). -/
theorem FrameAt.vblankLines (h : FrameAt s .vblank s.params.timing.visibleLines events blanked t) (k : Nat)
    (hk : k < s.params.timing.vblankLines) :
    FrameAt s .vblank (s.params.timing.visibleLines + k) events blanked
      (graphicsStep (k * s.params.timing.lineCycles) t) := by
  induction k with
  | zero => rw [Nat.zero_mul]; exact h.zero hp
  | succ k ih =>
    rw [Nat.succ_mul, graphicsStep_add _ _ (h.legal hp)]
    exact (ih (by omega)).vblank hp (Nat.add_lt_add_left hk _)

/-- All of vertical-blank: the next frame begins (rule R356). -/
theorem FrameAt.vblankPeriod (h : FrameAt s .vblank s.params.timing.visibleLines events blanked t) :
    FrameAt s .oamScan 0 events blanked (graphicsStep (s.params.timing.vblankLines * s.params.timing.lineCycles) t) := by
  obtain ⟨k, hk⟩ := Nat.exists_eq_add_of_le' hp.vblank
  rw [hk, Nat.succ_mul, graphicsStep_add _ _ (h.legal hp)]
  exact (h.vblankLines hp k (by omega)).lastVblank hp (by omega)

theorem FrameAt.frame (h : FrameAt s .oamScan 0 0 false t) :
    FrameAt s .oamScan 0 s.params.timing.visibleLines true (graphicsStep (frameCycles s.params.timing) t) := by
  unfold frameCycles
  rw [graphicsStep_add _ _ (h.legal hp)]
  exact (h.picture hp).vblankPeriod hp

end

/-- Settles O52: the frame is its visible lines and its vertical-blank lines, one after another. -/
theorem frameIs70224Cycles : Obligations.FrameIs70224Cycles := by
  unfold Obligations.FrameIs70224Cycles
  refine ⟨by decide, fun s hp on mode line clock => ?_⟩
  have start : FrameAt s .oamScan 0 0 false s :=
    { params := rfl, on := on, mode := mode, line := by rw [line]; rfl, clock := clock, frames := rfl,
      requested := nofun, hblanks := rfl }
  have whole := start.frame hp
  exact ⟨whole.mode, BitVec.eq_of_toNat_eq whole.line, whole.clock, whole.requested rfl, whole.frames, whole.hblanks⟩

/-! ### Writes of `LCDC` (rules R365, R367, R368) -/

theorem write8_lcdc (s : State) (v : Byte) : s.write8 0xFF40 v = setControl v s := rfl

theorem setControl_of_disable {s : State} {v : Byte} (old : s.displayOn = true) (new : v.getLsbD 7 = false) :
    setControl v s = disableReset (s.setGfx { s.gfx with lcdc := v }) := by
  unfold setControl
  simp only [old, new, Bool.not_false, Bool.and_self, if_true]

theorem setControl_of_enable {s : State} {v : Byte} (old : s.displayOn = false) (new : v.getLsbD 7 = true) :
    setControl v s = coincidenceCheck (s.setGfx { s.gfx with lcdc := v }) := by
  unfold setControl
  simp only [old, new, Bool.not_false, Bool.false_and, Bool.and_self, Bool.false_eq_true, if_true, if_false]

theorem setControl_of_same {s : State} {v : Byte} (same : s.displayOn = v.getLsbD 7) :
    setControl v s = s.setGfx { s.gfx with lcdc := v } := by
  unfold setControl
  simp only [same, Bool.and_not_self, Bool.not_and_self, Bool.false_eq_true, if_false]

/-- Settles O53: of the two bits 7, the old and the new, the write makes the disable reset, the check or neither. -/
theorem displayControl : Obligations.DisplayControl := by
  unfold Obligations.DisplayControl
  intro s v
  rw [write8_lcdc]
  refine ⟨fun old new => ?disable, fun old new => ?enable, setControl_of_same⟩
  case disable =>
    rw [setControl_of_disable old new]
    rfl
  case enable =>
    rw [setControl_of_enable old new]
    exact statusRequest_eq _ _

end Sys2Proof.Machine
end

section
/-! PROOFS. The DMA engine (rules R380 to R387): the bytes and the frame of the two copies, the writes of `FF46` and `FF55`,
and the horizontal-blank event. -/

namespace Sys2Proof.Machine

/-! ### The DMA into `OAM` (rule R380) -/

theorem write8_oamdma (s : State) (v : Byte) : s.write8 0xFF46 v = oamDma v s := rfl

/-- The copy of the first `n` bytes, as one access of the step. -/
def oamDmaCopy (v : Byte) (n : Nat) (s : State) : State :=
  ((List.range n).foldl
    (fun t i => t.writeMem .oam i (t.read8 (.oamDma i) (BitVec.ofNat 16 (v.toNat * 256 + i)))) s).nextDraw

theorem oamDma_eq (v : Byte) (s : State) : oamDma v s = oamDmaCopy v 160 (s.setDma { s.dma with oamdma := v }) := rfl

theorem oamDmaCopy_readMem (v : Byte) {n i : Nat} (s : State) (hn : n ≤ 160) (hi : i < n) :
    (oamDmaCopy v n s).readMem .oam i = s.read8 (.oamDma i) (BitVec.ofNat 16 (v.toNat * 256 + i)) := by
  obtain ⟨bytes, -, -⟩ := oamDma_prefix v n s hn
  exact bytes i hi

theorem oamDmaCopy_frame (v : Byte) {n : Nat} (s : State) (hn : n ≤ 160) :
    oamDmaCopy v n s =
      { s with mems := { s.mems with oam := (oamDmaCopy v n s).mems.oam }, draws := s.draws + 1 } := by
  obtain ⟨-, -, frame⟩ := oamDma_prefix v n s hn
  exact congrArg State.nextDraw frame

/-- Settles O54: the bytes and the frame of the whole copy, with `OAMDMA` written before it. -/
theorem oamDmaCopies160Bytes : Obligations.OamDmaCopies160Bytes := by
  unfold Obligations.OamDmaCopies160Bytes
  intro s v
  rw [write8_oamdma, oamDma_eq]
  exact ⟨fun i hi => oamDmaCopy_readMem v _ le_rfl hi, oamDmaCopy_frame v _ le_rfl⟩

/-! ### The copy of a VRAM DMA (rules R381, R383, R385) -/

/-- The state after the first `n` bytes of a copy from offset `base` on. -/
def vramDmaPrefix (base n : Nat) (s : State) : State := (List.range n).foldl (fun t k => vramDmaByte (base + k) t) s

theorem vramDmaPrefix_succ (base n : Nat) (s : State) :
    vramDmaPrefix base (n + 1) s = vramDmaByte (base + n) (vramDmaPrefix base n s) := vramDma_succ base n s

theorem vramDmaPrefix_frame (base n : Nat) (s : State) :
    vramDmaPrefix base n s = { s with mems := { s.mems with vram := (vramDmaPrefix base n s).mems.vram } } :=
  vramDma_frame base n s

theorem vramDmaPrefix_dma (base n : Nat) (s : State) : (vramDmaPrefix base n s).dma = s.dma := by
  rw [vramDmaPrefix_frame]

theorem vramDmaPrefix_vramCell (base n off : Nat) (s : State) : (vramDmaPrefix base n s).vramCell off = s.vramCell off := by
  rw [vramDmaPrefix_frame]
  rfl

/-- An address outside video RAM has no cell there. -/
theorem cellOf_ne_vram {s : State} {a : Word} (h : ∀ off, decodeAddr a ≠ .vram off) (k : Nat) :
    s.cellOf a ≠ some (.vram, k) := by
  unfold State.cellOf
  cases d : decodeAddr a with
  | vram off => exact absurd d (h off)
  | io n => simp only; split_ifs <;> simp
  | _ => simp

/-- A copy does not change what an address outside video RAM reads as. -/
theorem read8_vramDmaPrefix {a : Word} (h : ∀ off, decodeAddr a ≠ .vram off) (base n : Nat) (s : State) (acc : Access) :
    (vramDmaPrefix base n s).read8 acc a = s.read8 acc a := by
  induction n with
  | zero => rfl
  | succ n ih =>
    rw [vramDmaPrefix_succ, ← ih]
    exact read8_writeMem_other (.inl rfl) _ (cellOf_ne_vram h _) acc

/-- The copy goes through the bus, a read and a write for each byte. -/
theorem vramDmaPrefix_throughBus (base n : Nat) (s : State) : vramDmaThroughBus s (vramDmaPrefix base n s) base n := by
  refine ⟨fun k => vramDmaPrefix base k s, rfl, rfl, fun k _ => (vramDmaPrefix_succ base k s).trans ?_⟩
  rw [vramDmaByte_eq_write8, vramDmaPrefix_dma]
  rfl

section
variable {s : State} {base n : Nat}

theorem vramDmaSourceApart_mono {m : Nat} (apart : vramDmaSourceApart s base n) (h : m ≤ n) : vramDmaSourceApart s base m :=
  fun k hk => apart k (hk.trans_le h)

/-- From a source apart from video RAM the next byte copied is the one the bus read there before the copy. -/
theorem vramDmaPrefix_succ_of_apart (apart : vramDmaSourceApart s base (n + 1)) :
    vramDmaPrefix base (n + 1) s =
      (vramDmaPrefix base n s).writeMem .vram (s.vramCell (s.dma.dstOffset (base + n)))
        (s.read8 (.vramDma (base + n)) (s.dma.srcAddr (base + n))) := by
  have source : ∀ off, decodeAddr (s.dma.srcAddr (base + n)) ≠ .vram off := apart n (Nat.lt_succ_self n)
  rw [vramDmaPrefix_succ, vramDmaByte, vramDmaPrefix_dma, vramDmaPrefix_vramCell, read8_vramDmaPrefix source]

/-- Every byte of the destination is written once. -/
theorem vramDmaPrefix_dest (apart : vramDmaSourceApart s base n) (hn : n ≤ 8192) {k : Nat} (hk : k < n) :
    (vramDmaPrefix base n s).readMem .vram (s.vramCell (s.dma.dstOffset (base + k))) =
      s.read8 (.vramDma (base + k)) (s.dma.srcAddr (base + k)) := by
  induction n with
  | zero => exact absurd hk (Nat.not_lt_zero k)
  | succ n ih =>
    rw [vramDmaPrefix_succ_of_apart apart]
    rcases Nat.lt_succ_iff_lt_or_eq.1 hk with before | rfl
    · rw [readMem_writeMem_other _ _ fun same => vramDma_dest_inj s base before hn same.2]
      exact ih (vramDmaSourceApart_mono apart n.le_succ) (by omega) before
    · exact readMem_writeMem_same _ (by decide) _ _

/-- Outside the destination video RAM is as before. -/
theorem vramDmaPrefix_kept (apart : vramDmaSourceApart s base n) {j : Nat}
    (hj : ∀ k, k < n → j ≠ s.vramCell (s.dma.dstOffset (base + k))) :
    (vramDmaPrefix base n s).readMem .vram j = s.readMem .vram j := by
  induction n with
  | zero => rfl
  | succ n ih =>
    rw [vramDmaPrefix_succ_of_apart apart, readMem_writeMem_other _ _ fun same => hj n (Nat.lt_succ_self n) same.2]
    exact ih (vramDmaSourceApart_mono apart n.le_succ) fun k hk => hj k (Nat.lt_succ_of_lt hk)

theorem vramDmaPrefix_copied (apart : vramDmaSourceApart s base n) (hn : n ≤ 8192) :
    vramDmaCopied s (vramDmaPrefix base n s) base n :=
  ⟨fun _ hk => vramDmaPrefix_dest apart hn hk, fun _ hj => vramDmaPrefix_kept apart hj⟩

end

/-! ### Writes of `FF55` (rules R382, R383, R384, R387) -/

theorem write8_hdma5 (s : State) (v : Byte) : s.write8 0xFF55 v = hdma5Write v s := rfl

theorem mask_7F_toNat (v : Byte) : (v &&& 0x7F).toNat = v.toNat % 128 := by
  rw [BitVec.toNat_and]
  exact Nat.and_two_pow_sub_one_eq_mod v.toNat 7

theorem hdma5Write_of_abort {s : State} {v : Byte} (active : s.dma.active = true) (bit7 : v.getLsbD 7 = false) :
    hdma5Write v s = abortVramDma s := by
  unfold hdma5Write
  rw [active, bit7]
  rfl

theorem hdma5Write_of_arm (s : State) {v : Byte} (bit7 : v.getLsbD 7 = true) :
    hdma5Write v s = armVramDma v (v.toNat % 128 + 1) s := by
  unfold hdma5Write
  simp only [bit7, Bool.not_true, Bool.and_false, Bool.false_eq_true, if_false, if_true, mask_7F_toNat]

theorem hdma5Write_of_copy {s : State} {v : Byte} (idle : s.dma.active = false) (bit7 : v.getLsbD 7 = false) :
    hdma5Write v s = immediateCopy (v.toNat % 128 + 1) s := by
  unfold hdma5Write
  simp only [idle, bit7, Bool.false_and, Bool.false_eq_true, if_false, mask_7F_toNat]

section
variable {s : State} {base n : Nat} (d : Dma)

/-! The copy, and then a write of the DMA registers. -/

theorem vramDmaCopy_setDma_frame :
    (vramDmaCopy base n s).setDma d =
      { s with mems := { s.mems with vram := (vramDmaCopy base n s).mems.vram }, dma := d, draws := s.draws + 1 } :=
  congrArg (fun t => t.nextDraw.setDma d) (vramDmaPrefix_frame base n s)

theorem vramDmaCopy_setDma_throughBus : vramDmaThroughBus s ((vramDmaCopy base n s).setDma d) base n :=
  vramDmaPrefix_throughBus base n s

theorem vramDmaCopy_setDma_copied (apart : vramDmaSourceApart s base n) (hn : n ≤ 8192) :
    vramDmaCopied s ((vramDmaCopy base n s).setDma d) base n := vramDmaPrefix_copied apart hn

end

theorem immediateCopy_eq (blocks : Nat) (s : State) :
    immediateCopy blocks s = (vramDmaCopy 0 (blocks * 16) s).setDma { s.dma with hdma5 := 0xFF } := by
  unfold immediateCopy
  simp only [vramDmaCopy_dma]

/-- Settles O55: which of the three a write does, and for the copy at once the laws of the copy. -/
theorem vramDmaControl : Obligations.VramDmaControl := by
  unfold Obligations.VramDmaControl
  intro s v
  rw [write8_hdma5]
  refine ⟨hdma5Write_of_abort, hdma5Write_of_arm s, fun idle bit7 => ?_⟩
  have few : (v.toNat % 128 + 1) * 16 ≤ 8192 := by omega
  rw [hdma5Write_of_copy idle bit7, immediateCopy_eq]
  exact ⟨vramDmaCopy_setDma_frame _, vramDmaCopy_setDma_throughBus _, fun apart => vramDmaCopy_setDma_copied _ apart few⟩

/-! ### The horizontal-blank event (rules R385, R386) -/

/-- The count-down of an active transfer at the end of a block. -/
def Dma.afterBlock (d : Dma) : Dma :=
  if d.remaining = 1 then { d with block := d.block + 1, remaining := 0, active := false, hdma5 := 0xFF }
  else { d with block := d.block + 1, remaining := d.remaining - 1, hdma5 := BitVec.ofNat 8 (d.remaining - 2) &&& 0x7F }

theorem dmaHBlank_of_idle {s : State} (idle : s.dma.active = false) : dmaHBlank s = s := by
  unfold dmaHBlank
  rw [idle]
  rfl

/-- With a transfer active the event copies one block and counts down. -/
theorem dmaHBlank_of_active {s : State} (active : s.dma.active = true) (left : 1 ≤ s.dma.remaining) :
    dmaHBlank s = (vramDmaCopy (s.dma.block * 16) 16 s).setDma s.dma.afterBlock := by
  have last : s.dma.remaining - 1 = 0 ↔ s.dma.remaining = 1 := by omega
  unfold dmaHBlank Dma.afterBlock
  simp only [active, if_true, vramDmaCopy_dma, last, Nat.sub_sub, Nat.reduceAdd]
  split_ifs <;> rfl

/-- Settles O56: the copy of one block by the laws of the copy, and the count-down. -/
theorem horizontalBlankCopiesOneBlock : Obligations.HorizontalBlankCopiesOneBlock := by
  unfold Obligations.HorizontalBlankCopiesOneBlock
  intro s
  refine ⟨dmaHBlank_of_idle, fun active left => ?_⟩
  rw [dmaHBlank_of_active active left]
  exact ⟨vramDmaCopy_setDma_frame _, rfl, vramDmaCopy_setDma_throughBus _,
    fun apart => vramDmaCopy_setDma_copied _ apart (by decide)⟩

end Sys2Proof.Machine
end
